-- ==== Sys2Proof/Word.lean ====
section
/-!
DEFINITION. The word types of SWPSM and its fixed protocol constants (spec/00_scope.md R4, R8, R11).
-/

namespace Sys2Proof

/-- A byte of the frame, and the type of `hum` and `temp`: unsigned, bit 0 least significant (R11). -/
abbrev Byte := BitVec 8

/-- A level of the line or of a one-bit port: high = 1 = `true`, low = 0 = `false` (R11, R97). -/
abbrev Level := Bool

/-- A state code, ST_W = 4 bits (R8, R90). -/
abbrev StateCode := BitVec 4

/-- The word of the two host strobes, `{rst, start}`: bit 1 is `rst`, bit 0 is `start` (R99). -/
abbrev StrobeWord := BitVec 2

/-- The bit index, IDX_W = 6 bits (R8, R22). -/
abbrev BitIndex := BitVec 6

/-- The status word, STATUS_W = 6 bits (R8, R94). -/
abbrev StatusWord := BitVec 6

/-- N_BITS: bits sampled per transaction (R4). -/
abbrev nBits : Nat := 40

/-- N_BYTES: bytes per frame (R4). -/
abbrev nBytes : Nat := 5

/-- BITS_PER_BYTE: N_BITS = N_BYTES × BITS_PER_BYTE (R4). -/
abbrev bitsPerByte : Nat := 8

/-- A timestamp of the host driver's wall clock. It is opaque in the spec: only `elapsed_seconds` reads it
(R31, R180). PRESUMED: a rational number names it; no rule of the model computes with it (log 6). -/
abbrev Timestamp := Rat

/-- The "number" that `elapsed_seconds` gives and MIN_PERIOD_S is (R180, R181). PRESUMED: a rational (log 6). -/
abbrev Seconds := Rat

end Sys2Proof
end

