-- ==== Sys2Proof/Config.lean ====
section
/-!
DEFINITION. What one instance of the block fixes (spec/00_scope.md R5), and the free values: the levels of the line,
the host's strobes, the wall clock and the application's calls, on which the spec puts no law (R9, R180, 93_implementation_defined.md U7, U8).
-/

namespace Sys2Proof

/-- The driver's three public operations (spec/30_encoding.md R100, 44_host_driver.md R182, R185, R186). -/
inductive DriverOp
  | update
  | readHumidity
  | readTemperature
  deriving DecidableEq, Repr

/-- The timing parameters of R5, each with the document's literal as its default. Constants of one instance: no step
writes them. Which values are legal is `Config.legal` (R7). -/
structure Config where
  /-- T_IDLE, bound of WAIT_IDLE. -/
  tIdle : Nat := 250
  /-- HOLD_LOW, length of DRIVE_LOW. -/
  holdLow : Nat := 20000
  /-- RELEASE, length of DRIVE_HIGH. -/
  release : Nat := 30
  /-- T_ACK, bound of ACK_LOW and of ACK_HIGH. -/
  tAck : Nat := 100
  /-- T_BIT_START, bound of BIT_START. -/
  tBitStart : Nat := 75
  /-- SETTLE, length of BIT_SETTLE. -/
  settle : Nat := 40
  /-- T_BIT_END, bound of BIT_END. -/
  tBitEnd : Nat := 50
  /-- MIN_PERIOD_S, read by the host driver only. -/
  minPeriodS : Seconds := 3
  deriving DecidableEq, Repr

/-- The largest of the seven tick parameters. -/
def Config.largest (c : Config) : Nat :=
  max c.tIdle (max c.holdLow (max c.release (max c.tAck (max c.tBitStart (max c.settle c.tBitEnd)))))

/-- CNT_W: "the least width that holds the largest of them" (R8, D18), 15 with the defaults. -/
def Config.cntWidth (c : Config) : Nat := c.largest.log2 + 1

/-- The defaults of R5. -/
def Config.default : Config := {}

/-- FREE VALUE: the level of `pin_in` at tick `t` when the line is under no law (R9, D5, U7; log 3). -/
opaque Config.drawLevel : Nat → Level

/-- FREE VALUE: `start` at tick `t` when the host is free to drive it (R9, D1; log 3). -/
opaque Config.drawStart : Nat → Bool

/-- FREE VALUE: `rst` at tick `t` when the host is free to drive it (R9; log 3). -/
opaque Config.drawRst : Nat → Bool

/-- FREE VALUE: which driver operation, if any, the application calls at tick `t` (R3: the application is external; log 5). -/
opaque Config.drawCall : Nat → Option DriverOp

/-- FREE VALUE: the answer of the driver's `k`-th call of `now()`, "a draw at each call" (R180; log 6). -/
opaque Config.now : Nat → Timestamp

/-- FREE VALUE: `elapsed_seconds(t0, t1)`, an uninterpreted total function under no law (R180; log 6). -/
opaque Config.elapsedSeconds : Timestamp → Timestamp → Seconds

end Sys2Proof
end

