-- ==== Sys2Proof/Syntax.lean ====
section
/-!
DEFINITION. The instructions: one constructor per row of spec/opcode_table.json (D30: the micro-operation of one
state of the block, or one host strobe). A state code has no operand field (spec/30_encoding.md R90), and neither has a strobe (R99).
-/

namespace Sys2Proof

/-- One constructor per row of the opcode table, in the table's order. -/
inductive Instr
  | idle
  | waitIdle
  | driveLow
  | driveHigh
  | ackLow
  | ackHigh
  | bitStart
  | bitSettle
  | bitEnd
  | assemble
  | validate
  | reserved11
  | reserved12
  | reserved13
  | reserved14
  | reserved15
  | start
  | rst
  deriving DecidableEq, Repr

end Sys2Proof
end

