-- ==== Sys2Proof/WellFormed.lean ====
section
/-!
DEFINITION. Which configurations are configurations of this hardware (spec/00_scope.md R7), and which instructions are
well-formed (all: no row of the table has an operand).
-/

namespace Sys2Proof

/-- A timing parameter is legal when it is at least 1 and less than 2^CNT_W (R7); the second always holds, since CNT_W is
wide enough for the largest of them (R8; Laws/Config.lean: `Config.legal_iff`). -/
def legalTicks (width n : Nat) : Bool := decide (1 ≤ n) && decide (n < 2 ^ width)

/-- R7: every tick parameter is legal and MIN_PERIOD_S is not negative. A configuration for which this is false is
refused by `step` ("refused by the model (it is not a configuration of this hardware); no rule gives it a meaning"). -/
def Config.legal (c : Config) : Bool :=
  legalTicks c.cntWidth c.tIdle && legalTicks c.cntWidth c.holdLow && legalTicks c.cntWidth c.release &&
    legalTicks c.cntWidth c.tAck && legalTicks c.cntWidth c.tBitStart && legalTicks c.cntWidth c.settle &&
    legalTicks c.cntWidth c.tBitEnd && decide (0 ≤ c.minPeriodS)

/-- Every instruction is well-formed: a state code is all opcode and a strobe has no argument (R90, R99), so no
instruction carries an operand that could be out of range. -/
def Instr.wellFormed : Instr → Bool
  | .idle | .waitIdle | .driveLow | .driveHigh | .ackLow | .ackHigh => true
  | .bitStart | .bitSettle | .bitEnd | .assemble | .validate => true
  | .reserved11 | .reserved12 | .reserved13 | .reserved14 | .reserved15 => true
  | .start | .rst => true

end Sys2Proof
end

