-- ==== Sys2Proof/Decode.lean ====
section
/-!
DEFINITION. The encodings of spec/30_encoding.md: the sixteen state codes (R90, R91, R93) and the two strobe words
(R99), the decoder and after it the encoder. The table has two formats, `state4` and `strobe2`; a word is read in its own format.
-/

namespace Sys2Proof

/-! The state codes by name (R90). -/

@[simp] abbrev stIdle : StateCode := 0#4
@[simp] abbrev stWaitIdle : StateCode := 1#4
@[simp] abbrev stDriveLow : StateCode := 2#4
@[simp] abbrev stDriveHigh : StateCode := 3#4
@[simp] abbrev stAckLow : StateCode := 4#4
@[simp] abbrev stAckHigh : StateCode := 5#4
@[simp] abbrev stBitStart : StateCode := 6#4
@[simp] abbrev stBitSettle : StateCode := 7#4
@[simp] abbrev stBitEnd : StateCode := 8#4
@[simp] abbrev stAssemble : StateCode := 9#4
@[simp] abbrev stValidate : StateCode := 10#4

/-- A word of the opcode table in one of its two formats. -/
inductive Code
  /-- Format `state4`: the four bits of `st` (R90). -/
  | state4 (code : StateCode)
  /-- Format `strobe2`: the two bits `{rst, start}` (R99). -/
  | strobe2 (word : StrobeWord)
  deriving DecidableEq, Repr

/-- Why a word is no instruction. -/
inductive DecodeReject
  /-- The strobe word 00: "Level 0 on either is 'no command'" (R99). -/
  | noCommand
  /-- A number wider than the format it is read in: no word of the table. -/
  | tooWide
  deriving DecidableEq, Repr

/-- The decoder of `st`: "total on all sixteen values" (R91), by the table of R90. -/
def decodeState (c : StateCode) : Instr :=
  match c.toNat with
  | 0 => .idle
  | 1 => .waitIdle
  | 2 => .driveLow
  | 3 => .driveHigh
  | 4 => .ackLow
  | 5 => .ackHigh
  | 6 => .bitStart
  | 7 => .bitSettle
  | 8 => .bitEnd
  | 9 => .assemble
  | 10 => .validate
  | 11 => .reserved11
  | 12 => .reserved12
  | 13 => .reserved13
  | 14 => .reserved14
  | _ => .reserved15

/-- The decoder of `{rst, start}` (R99): `rst` = 1 is RST whatever `start` is, 01 is START, 00 is no command. -/
def decodeStrobe (w : StrobeWord) : Except DecodeReject Instr :=
  match w.toNat with
  | 0 => .error .noCommand
  | 1 => .ok .start
  | _ => .ok .rst

/-- The decoder of the opcode table's words. -/
def decode : Code → Except DecodeReject Instr
  | .state4 c => .ok (decodeState c)
  | .strobe2 w => decodeStrobe w

/-- A number as a word of the format that is `nbits` wide: up to 2 bits is a strobe word, more is a state code (log 10). -/
def codeOfNat (nbits w : Nat) : Except DecodeReject Code :=
  if nbits ≤ 2 then
    if w < 2 ^ 2 then .ok (.strobe2 (BitVec.ofNat 2 w)) else .error .tooWide
  else if w < 2 ^ 4 then .ok (.state4 (BitVec.ofNat 4 w)) else .error .tooWide

/-- What the decoder reads from the number `w` of `nbits` bits, numbered as spec/opcode_table.json numbers them. -/
def decodeTableWord (nbits w : Nat) : Option Instr :=
  match codeOfNat nbits w with
  | .error _ => none
  | .ok c =>
    match decode c with
    | .error _ => none
    | .ok i => some i

/-- What the block runs at a tick whose strobes are `rst` and `start` and whose state register is `st`: the strobe if
there is one, else the micro-operation of the state (R42, R99; log 1). -/
def decodeTick (rst start : Bool) (st : StateCode) : Instr :=
  match decodeStrobe (BitVec.ofBool rst ++ BitVec.ofBool start) with
  | .ok i => i
  | .error _ => decodeState st

/-- The encoder, from the same tables (R90, R99). RST's second bit is "don't care"; the encoder gives 0. -/
def encode : Instr → Code
  | .idle => .state4 0b0000#4
  | .waitIdle => .state4 0b0001#4
  | .driveLow => .state4 0b0010#4
  | .driveHigh => .state4 0b0011#4
  | .ackLow => .state4 0b0100#4
  | .ackHigh => .state4 0b0101#4
  | .bitStart => .state4 0b0110#4
  | .bitSettle => .state4 0b0111#4
  | .bitEnd => .state4 0b1000#4
  | .assemble => .state4 0b1001#4
  | .validate => .state4 0b1010#4
  | .reserved11 => .state4 0b1011#4
  | .reserved12 => .state4 0b1100#4
  | .reserved13 => .state4 0b1101#4
  | .reserved14 => .state4 0b1110#4
  | .reserved15 => .state4 0b1111#4
  | .start => .strobe2 0b01#2
  | .rst => .strobe2 0b10#2

end Sys2Proof
end

