-- ==== Sys2Proof/Machine/State.lean ====
section
/-!
DEFINITION. The state of the machine as plain data: the block's nine registers (spec/10_state.md R20), the host driver's
variables (R31), the ports at this tick (R32), the instance's configuration (00_scope.md R5), and where the next
inputs come from (R9, 30_encoding.md R101). State.reset is the machine right after a reset tick (R37).
-/

namespace Sys2Proof.Machine

/-- The three inputs of a tick (R32), the triple of R101. `clk` is no value any rule reads. -/
structure Inputs where
  rst : Bool
  start : Bool
  pinIn : Level
  deriving DecidableEq, Repr

/-- What the inputs are once `State.pending` is used up. -/
inductive InputTail
  /-- R101: "the inputs hold `rst` = 0, `start` = 0 and the `pin_in` of the last tick". -/
  | held
  /-- R9, U7: each input of each tick is a fresh draw under no law. -/
  | drawn
  deriving DecidableEq, Repr

/-- Who drives the strobes (R9). -/
inductive HostKind
  /-- A host that drives `rst` and `start` freely. -/
  | free
  /-- The host driver of 44_host_driver.md. -/
  | driver
  deriving DecidableEq, Repr

/-- Where the host driver stands in its procedure (R182, R184). -/
inductive DriverPhase
  /-- No call in progress. -/
  | ready
  /-- `run_transaction` is called and waits for a tick with `busy` = 0 at which to raise `start`. -/
  | starting (op : DriverOp)
  /-- `start` has been raised; the first later tick with `busy` = 0 ends the call. -/
  | waiting (op : DriverOp)
  deriving DecidableEq, Repr

/-- What a finished call of the driver returned (R182, R185, R186). -/
inductive DriverReply
  | done
  | humidity (value : Byte)
  | temperature (value : Byte)
  deriving DecidableEq, Repr

/-- The host driver (R31; log 5, log 13). -/
structure Driver where
  /-- `last_ts`; `has_ts` is whether it holds a value (R31). -/
  lastTs : Option Timestamp
  phase : DriverPhase
  /-- The application's calls not yet begun, oldest first. -/
  calls : List DriverOp
  /-- What the last finished call returned. -/
  reply : Option DriverReply
  /-- How many times `now()` has been called: the index of its next draw (R180). -/
  clockReads : Nat
  deriving DecidableEq, Repr

/-- The machine. -/
structure State where
  /-- `st`, the state register (R21). -/
  st : StateCode
  /-- `cnt`, the tick counter of CNT_W bits (R23). CNT_W depends on the instance's parameters (R8, `Config.cntWidth`), so the
  type is the natural numbers and the width is where the counter counts: `countUp` wraps at 2^CNT_W (log 2). -/
  cnt : Nat
  /-- `idx`, the index of the bit being sampled (R22). -/
  idx : BitIndex
  /-- `bitbuf[0..39]`, the raw bit buffer (R24). -/
  bitbuf : Vector Bool 40
  /-- `frame[0..4]`, the data frame (R25). -/
  frame : Vector Byte 5
  /-- `hum`, the cached humidity (R26). -/
  hum : Byte
  /-- `temp`, the cached temperature (R27). -/
  temp : Byte
  /-- `status`, the outcome of the last finished transaction (R28). -/
  status : StatusWord
  /-- `pull`, the pull mode of the pin (R29). -/
  pull : Bool
  /-- The input ports at this tick (R32). -/
  inp : Inputs
  /-- The instance's parameters (R5); no step writes them (log 2). -/
  cfg : Config
  /-- The input triples of the ticks to come (R101; log 3). -/
  pending : List Inputs
  /-- What follows `pending` (log 3). -/
  tail : InputTail
  /-- Who drives the strobes (log 3). -/
  host : HostKind
  /-- The number of this tick (R13), the index of the draws. -/
  tick : Nat
  /-- The host driver (R31). -/
  driver : Driver
  deriving DecidableEq, Repr

/-- "The step is a total, deterministic function: there is no stuck state, no fault outcome" (R9, R200): no reason for
a fault exists, so the type has no constructor (log 18). -/
inductive Fault
  deriving DecidableEq, Repr

/-- Why the machine gives no meaning. -/
inductive Refusal
  /-- Raised by an arm of `exec` whose instruction has no meaning yet; no arm is left that raises it. Safe. -/
  | notModelled (mnemonic : String)
  /-- Raised by `step` when the instance's parameters are outside R7: "A configuration outside this range is refused
  by the model (it is not a configuration of this hardware); no rule gives it a meaning" (also D27, U11). Safe. -/
  | illegalConfiguration
  deriving DecidableEq, Repr

/-- The driver as constructed (R31, R37): no timestamp; the rest is the model's own (log 5). -/
def Driver.initial : Driver :=
  { lastTs := none, phase := .ready, calls := [], reply := none, clockReads := 0 }

/-- The machine right after a reset tick: the nine registers as R37 tabulates them, the default parameters (R5), the
driver as constructed; the ports of the first tick and the sources of the next ones are the model's own (log 3). -/
def State.reset : State :=
  { st := 0#4
    cnt := 0
    idx := 0#6
    bitbuf := Vector.replicate 40 false
    frame := Vector.replicate 5 0x00#8
    hum := 0x00#8
    temp := 0x00#8
    status := 0b000000#6
    pull := false
    inp := { rst := false, start := false, pinIn := true }
    cfg := Config.default
    pending := []
    tail := .drawn
    host := .free
    tick := 0
    driver := Driver.initial }

end Sys2Proof.Machine
end

