-- ==== Sys2Proof/Machine/Flags.lean ====
section
/-!
DEFINITION. The status word, the block's only flags (spec/30_encoding.md R94), and the checksum that decides between two of its values (R96).
-/

namespace Sys2Proof.Machine

/-! The values of `status.code` (R94). -/

@[simp] abbrev codeNone : BitVec 2 := 0#2
@[simp] abbrev codeOk : BitVec 2 := 1#2
@[simp] abbrev codeTimeout : BitVec 2 := 2#2
@[simp] abbrev codeChecksum : BitVec 2 := 3#2

/-- `status = {fail, code}`: `fail` in bits 5:2, `code` in bits 1:0 (R94). -/
def statusWord (fail : StateCode) (code : BitVec 2) : StatusWord := fail ++ code

/-- `status.code`, bits 1:0 (R94). -/
def statusCode (w : StatusWord) : BitVec 2 := w.extractLsb' 0 2

/-- `status.fail`, bits 5:2 (R94). -/
def statusFail (w : StatusWord) : StateCode := w.extractLsb' 2 4

/-- `sum10`: the first four bytes of the frame, each zero-extended to 10 bits, added in 10 bits (R96, R170). -/
def sum10 (f : Vector Byte 5) : BitVec 10 :=
  f[0].setWidth 10 + f[1].setWidth 10 + f[2].setWidth 10 + f[3].setWidth 10

/-- `sum10[7:0]`, the truncated sum (R96, R173). -/
def checksum (f : Vector Byte 5) : Byte := (sum10 f).extractLsb' 0 8

/-- "a decoder must accept the frame iff this holds" (R172): the truncated sum equals byte 4. -/
def frameValid (f : Vector Byte 5) : Bool := checksum f == f[4]

end Sys2Proof.Machine
end

