-- ==== Sys2Proof/Machine/Operands.lean ====
section
/-!
DEFINITION. The operand forms: the two index spaces BITBUF and FRAME (spec/20_memory.md R60, R66; MemRead and MemWrite of
00_scope.md R12, 10_state.md R46), the packing order (R62, R95, R96) and the frame as one number (R64).
-/

namespace Sys2Proof.Machine

/-- `MemWrite(BITBUF, i, 1, v)` at the computed index `i`, under the rule's guard `i <= 39` (R46, R141): "an index out
of range cannot be expressed" (R60), so outside the guard nothing is written. -/
def memWriteBit (i : BitIndex) (v : Bool) (s : State) : State :=
  if h : i.toNat ≤ 39 then { s with bitbuf := s.bitbuf.set i.toNat v (by omega) } else s

/-- Eight elements of the buffer from `k` on as one byte; the first element is bit 7 (R62, R96, R160). -/
def packByte (b : Vector Bool 40) (k : Nat) (h : k + 8 ≤ 40 := by decide) : Byte :=
  BitVec.ofBool b[k] ++ BitVec.ofBool b[k + 1] ++ BitVec.ofBool b[k + 2] ++ BitVec.ofBool b[k + 3] ++
    BitVec.ofBool b[k + 4] ++ BitVec.ofBool b[k + 5] ++ BitVec.ofBool b[k + 6] ++ BitVec.ofBool b[k + 7]

/-- The forty elements as five bytes: byte `j` is elements `8j` to `8j + 7` (R65, R160). -/
def packFrame (b : Vector Bool 40) : Vector Byte 5 :=
  #v[packByte b 0, packByte b 8, packByte b 16, packByte b 24, packByte b 32]

/-- BITBUF cleared: all forty elements 0 (R66, R120). -/
def clearedBits : Vector Bool 40 := Vector.replicate 40 false

/-- FRAME cleared: all five bytes 0x00 (R66, R120). -/
def clearedFrame : Vector Byte 5 := Vector.replicate 5 0x00#8

/-- `frame_o`: the frame as one big-endian number, `frame[0]` in bits 39:32 (R64). -/
def frameNumber (f : Vector Byte 5) : BitVec 40 := f[0] ++ f[1] ++ f[2] ++ f[3] ++ f[4]

end Sys2Proof.Machine
end

