-- ==== Sys2Proof/Machine/Ops.lean ====
section
/-!
DEFINITION. The operations the meanings share: the two failures and their entry (spec/60_exceptions.md R203, R204), the two
timing primitives (10_state.md R40, R41), the reset of the registers (R37), and which instruction a tick runs (R42).
All assignments of one step take effect together (00_scope.md R12), so each operation is one record update.
-/

namespace Sys2Proof.Machine

/-- The three outcomes with this machine's types. -/
abbrev Result := Host.Outcome State Fault Refusal

/-- `raise Timeout(S)` (R203): `status <- {fail = code_of(S), code = TIMEOUT}`, `cnt <- 0`, `st <- IDLE`, and nothing
else. There is no saved state and no return from it: the next transaction is begun by `start` (R209). -/
def raiseTimeout (code : StateCode) (s : State) : State :=
  { s with status := statusWord code codeTimeout, cnt := 0, st := stIdle }

/-- `raise ChecksumMismatch` (R204): `status <- {fail = 0, code = CHECKSUM}`, and nothing else; `st <- IDLE` is
VALIDATE's own assignment in both branches (R170). -/
def raiseChecksumMismatch (s : State) : State :=
  { s with status := statusWord 0#4 codeChecksum }

/-- `cnt + 1` in a counter of CNT_W bits (R44). -/
def countUp (c : Config) (x : Nat) : Nat := (x + 1) % 2 ^ c.cntWidth

/-- `wait(level, N, next)` in the wait state with code `self` (R40): the level test first, then the bound test (R207).
DEDUCED: the failing state is the micro-operation's own code, which is `st` at every tick that runs it (log 8). -/
def waitLevel (level : Level) (bound : Nat) (self : StateCode) (next : State → State) (s : State) : State :=
  if s.inp.pinIn = level then next { s with cnt := 0 }
  else if bound - 1 ≤ s.cnt then raiseTimeout self s
  else { s with cnt := countUp s.cfg s.cnt }

/-- `delay(D, next)` (R41). -/
def delayTicks (length : Nat) (next : State → State) (s : State) : State :=
  if length - 1 ≤ s.cnt then next { s with cnt := 0 }
  else { s with cnt := countUp s.cfg s.cnt }

/-- `st <- S`, the control transfer (R12, R45). -/
def goTo (code : StateCode) (s : State) : State := { s with st := code }

/-- Acceptance of a transaction (R120): `frame`, `bitbuf`, `idx`, `cnt` cleared, `st <- WAIT_IDLE`. -/
def acceptTransaction (s : State) : State :=
  { s with frame := clearedFrame, bitbuf := clearedBits, idx := 0#6, cnt := 0, st := stWaitIdle }

/-- A reserved code (R93): `st <- IDLE`, `cnt <- 0`, "and no other register changes". -/
def leaveReserved (s : State) : State := { s with st := stIdle, cnt := 0 }

/-- Every register gets its reset value (R37). The driver's variables are outside the block and keep theirs (log 7). -/
def resetRegisters (s : State) : State :=
  { s with
    st := stIdle
    cnt := 0
    idx := 0#6
    bitbuf := clearedBits
    frame := clearedFrame
    hum := 0x00#8
    temp := 0x00#8
    status := statusWord 0#4 codeNone
    pull := false }

/-- The instruction this tick runs: its strobe if there is one, else the micro-operation `st` names (R42; log 1). -/
def fetch (s : State) : Instr := decodeTick s.inp.rst s.inp.start s.st

end Sys2Proof.Machine
end

