-- ==== Sys2Proof/Machine/Assembler.lean ====
section
/-!
DEFINITION. The Frame Assembler: the meaning of ASSEMBLE (spec/42_frame_assembler.md R160).
-/

namespace Sys2Proof.Machine

/-- ASSEMBLE (R160): all five bytes of `frame` from the forty elements of `bitbuf`, `st <- VALIDATE`. -/
def execAssemble (s : State) : Result :=
  .next { s with frame := packFrame s.bitbuf, st := stValidate }

end Sys2Proof.Machine
end

