-- ==== Sys2Proof/Machine/Initiator.lean ====
section
/-!
DEFINITION. The Transaction Initiator: the meanings of IDLE, WAIT_IDLE, DRIVE_LOW, DRIVE_HIGH, ACK_LOW and ACK_HIGH
(spec/40_transaction_initiator.md R120 to R125).
-/

namespace Sys2Proof.Machine

/-- IDLE (R120): with `start` = 1 a transaction is accepted, else "no register changes". -/
def execIdle (s : State) : Result :=
  .next (if s.inp.start then acceptTransaction s else s)

/-- WAIT_IDLE (R121): `wait(1, T_IDLE, { st <- DRIVE_LOW })`. -/
def execWaitIdle (s : State) : Result :=
  .next (waitLevel true s.cfg.tIdle stWaitIdle (goTo stDriveLow) s)

/-- DRIVE_LOW (R122): `delay(HOLD_LOW, { pull <- 1 ; st <- DRIVE_HIGH })`. -/
def execDriveLow (s : State) : Result :=
  .next (delayTicks s.cfg.holdLow (fun t => { t with pull := true, st := stDriveHigh }) s)

/-- DRIVE_HIGH (R123): `delay(RELEASE, { st <- ACK_LOW })`. -/
def execDriveHigh (s : State) : Result :=
  .next (delayTicks s.cfg.release (goTo stAckLow) s)

/-- ACK_LOW (R124): `wait(0, T_ACK, { st <- ACK_HIGH })`. -/
def execAckLow (s : State) : Result :=
  .next (waitLevel false s.cfg.tAck stAckLow (goTo stAckHigh) s)

/-- ACK_HIGH (R125): `wait(1, T_ACK, { st <- BIT_START })`. -/
def execAckHigh (s : State) : Result :=
  .next (waitLevel true s.cfg.tAck stAckHigh (goTo stBitStart) s)

end Sys2Proof.Machine
end

