-- ==== Sys2Proof/Machine/Reserved.lean ====
section
/-!
DEFINITION. The meanings of the five reserved state codes (spec/30_encoding.md R93).
-/

namespace Sys2Proof.Machine

/-- State code 11 (R93). -/
def execReserved11 (s : State) : Result := .next (leaveReserved s)

/-- State code 12 (R93). -/
def execReserved12 (s : State) : Result := .next (leaveReserved s)

/-- State code 13 (R93). -/
def execReserved13 (s : State) : Result := .next (leaveReserved s)

/-- State code 14 (R93). -/
def execReserved14 (s : State) : Result := .next (leaveReserved s)

/-- State code 15 (R93). -/
def execReserved15 (s : State) : Result := .next (leaveReserved s)

end Sys2Proof.Machine
end

