-- ==== Sys2Proof/Machine/Sampler.lean ====
section
/-!
DEFINITION. The Bit Sampler: the meanings of BIT_START, BIT_SETTLE and BIT_END (spec/41_bit_sampler.md R140 to R142).
-/

namespace Sys2Proof.Machine

/-- BIT_START (R140): `wait(0, T_BIT_START, { st <- BIT_SETTLE })`. -/
def execBitStart (s : State) : Result :=
  .next (waitLevel false s.cfg.tBitStart stBitStart (goTo stBitSettle) s)

/-- BIT_SETTLE (R141): `delay(SETTLE, { if idx <= 39 then bitbuf[idx] <- pin_in ; st <- BIT_END })`; a high sample
records 1 (R97). -/
def execBitSettle (s : State) : Result :=
  .next (delayTicks s.cfg.settle (fun t => goTo stBitEnd (memWriteBit t.idx t.inp.pinIn t)) s)

/-- The success action of BIT_END (R142): `if idx >= 39 then st <- ASSEMBLE else { idx <- idx + 1 ; st <- BIT_START }`. -/
def nextBit (s : State) : State :=
  if 39 ≤ s.idx.toNat then goTo stAssemble s else { s with idx := s.idx + 1#6, st := stBitStart }

/-- BIT_END (R142): `wait(1, T_BIT_END, ...)`. -/
def execBitEnd (s : State) : Result :=
  .next (waitLevel true s.cfg.tBitEnd stBitEnd nextBit s)

end Sys2Proof.Machine
end

