-- ==== Sys2Proof/Machine/Validator.lean ====
section
/-!
DEFINITION. The Checksum Validator: the meaning of VALIDATE (spec/43_checksum_validator.md R170 to R174).
-/

namespace Sys2Proof.Machine

/-- The matching branch (R170, R171): `hum <- frame[0]`, `temp <- frame[2]`, `status <- {0, OK}`. -/
def commitReading (s : State) : State :=
  { s with hum := s.frame[0], temp := s.frame[2], status := statusWord 0#4 codeOk }

/-- VALIDATE (R170): commit or reject, and `st <- IDLE` in both branches. -/
def execValidate (s : State) : Result :=
  .next (goTo stIdle (if frameValid s.frame then commitReading s else raiseChecksumMismatch s))

end Sys2Proof.Machine
end

