-- ==== Sys2Proof/Machine/Strobes.lean ====
section
/-!
DEFINITION. The meanings of the two host strobes, START and RST (spec/30_encoding.md R99, 40_transaction_initiator.md R120, R126, 70_reset_and_hazards.md R230).
-/

namespace Sys2Proof.Machine

/-- The micro-operation of the state register: the `case st of` of R42. -/
def execState (s : State) : Result :=
  match s.st.toNat with
  | 0 => execIdle s
  | 1 => execWaitIdle s
  | 2 => execDriveLow s
  | 3 => execDriveHigh s
  | 4 => execAckLow s
  | 5 => execAckHigh s
  | 6 => execBitStart s
  | 7 => execBitSettle s
  | 8 => execBitEnd s
  | 9 => execAssemble s
  | 10 => execValidate s
  | 11 => execReserved11 s
  | 12 => execReserved12 s
  | 13 => execReserved13 s
  | 14 => execReserved14 s
  | _ => execReserved15 s

/-- START, the tick with `{rst,start}` = 01 (R99): in IDLE a transaction is accepted (R120); "in every state but IDLE
`start` is not read" (R126), so the tick is the state's own micro-operation (DEDUCED, log 9). -/
def execStart (s : State) : Result :=
  if s.st = stIdle then .next (acceptTransaction s) else execState s

/-- RST, the tick with `rst` = 1 (R230, R37): every register to its reset value, whatever the state and the other inputs. -/
def execRst (s : State) : Result := .next (resetRegisters s)

end Sys2Proof.Machine
end

