-- ==== Sys2Proof/Machine/Dispatch.lean ====
section
/-!
DEFINITION. exec: one arm per row of the opcode table, each one call of its meaning.
-/

namespace Sys2Proof.Machine

def exec (i : Instr) (s : State) : Host.Outcome State Fault Refusal :=
  match i with
  | .idle => Sys2Proof.Machine.execIdle s
  | .waitIdle => Sys2Proof.Machine.execWaitIdle s
  | .driveLow => Sys2Proof.Machine.execDriveLow s
  | .driveHigh => Sys2Proof.Machine.execDriveHigh s
  | .ackLow => Sys2Proof.Machine.execAckLow s
  | .ackHigh => Sys2Proof.Machine.execAckHigh s
  | .bitStart => Sys2Proof.Machine.execBitStart s
  | .bitSettle => Sys2Proof.Machine.execBitSettle s
  | .bitEnd => Sys2Proof.Machine.execBitEnd s
  | .assemble => Sys2Proof.Machine.execAssemble s
  | .validate => Sys2Proof.Machine.execValidate s
  | .reserved11 => Sys2Proof.Machine.execReserved11 s
  | .reserved12 => Sys2Proof.Machine.execReserved12 s
  | .reserved13 => Sys2Proof.Machine.execReserved13 s
  | .reserved14 => Sys2Proof.Machine.execReserved14 s
  | .reserved15 => Sys2Proof.Machine.execReserved15 s
  | .start => Sys2Proof.Machine.execStart s
  | .rst => Sys2Proof.Machine.execRst s

end Sys2Proof.Machine
end

