-- ==== Sys2Proof/Machine/Ports.lean ====
section
/-!
DEFINITION. The output ports (spec/10_state.md R33, R34) as functions of the registers of the current tick (Moore, R36).
-/

namespace Sys2Proof.Machine

/-- `busy`: 1 iff `st` ≠ IDLE (R36). -/
def busy (s : State) : Bool := decide (s.st ≠ stIdle)

/-- `pin_oe`: 1 in DRIVE_LOW and DRIVE_HIGH (R36). -/
def pinOe (s : State) : Bool := decide (s.st = stDriveLow) || decide (s.st = stDriveHigh)

/-- `pin_out`: 1 in DRIVE_HIGH (R36). -/
def pinOut (s : State) : Level := decide (s.st = stDriveHigh)

/-- `pin_pull` (R36). -/
def pinPull (s : State) : Bool := s.pull

/-- `frame_o` (R34, R64). -/
def frameO (s : State) : BitVec 40 := frameNumber s.frame

/-- Everything the block shows (R33, R34). -/
structure Outputs where
  pinOe : Bool
  pinOut : Level
  pinPull : Bool
  busy : Bool
  status : StatusWord
  frameO : BitVec 40
  hum : Byte
  temp : Byte
  deriving DecidableEq, Repr

/-- The output ports at this tick. -/
def outputs (s : State) : Outputs :=
  { pinOe := pinOe s
    pinOut := pinOut s
    pinPull := pinPull s
    busy := busy s
    status := s.status
    frameO := frameO s
    hum := s.hum
    temp := s.temp }

end Sys2Proof.Machine
end

