-- ==== Sys2Proof/Machine/HostDriver.lean ====
section
/-!
DEFINITION. The host driver (spec/44_host_driver.md): the Rate Limiter, `update`, `run_transaction` and the two read operations,
as what the driver does at one tick boundary, seeing the block's registers of the tick that begins (log 5).
The clock is a pair of arguments, `elapsed` and the answer `now` of one call of `now()` (R180).
-/

namespace Sys2Proof.Machine

/-- `may_proceed(t)` (R181): true when there is no timestamp, else `elapsed_seconds(last_ts, t) >= MIN_PERIOD_S`. -/
def mayProceed (elapsed : Timestamp → Timestamp → Seconds) (minPeriod : Seconds) (lastTs : Option Timestamp)
    (now : Timestamp) : Bool :=
  match lastTs with
  | none => true
  | some t0 => decide (minPeriod ≤ elapsed t0 now)

/-- What an operation returns: "the current cached value regardless of whether the update actually ran or succeeded"
(R185, R186); `update` returns nothing (R182). -/
def replyOf (op : DriverOp) (hum temp : Byte) : DriverReply :=
  match op with
  | .update => .done
  | .readHumidity => .humidity hum
  | .readTemperature => .temperature temp

/-- What the driver does at a tick boundary: its new variables and whether `start` is 1 in the tick that begins. -/
structure DriverAct where
  driver : Driver
  start : Bool
  deriving DecidableEq, Repr

/-- `run_transaction()`, its first part (R184): "at one tick a with busy == 0: start = 1"; until there is one, it waits. -/
def beginTransaction (blockBusy : Bool) (op : DriverOp) (d : Driver) : DriverAct :=
  if blockBusy then { driver := { d with phase := .starting op }, start := false }
  else { driver := { d with phase := .waiting op }, start := true }

/-- The call `op` returns to the application. -/
def finishCall (op : DriverOp) (hum temp : Byte) (d : Driver) : DriverAct :=
  { driver := { d with phase := .ready, reply := some (replyOf op hum temp) }, start := false }

/-- `update()` (R182): `now()` is read once; a call let through writes `last_ts` before the transaction (R183), a
throttled one writes nothing, does nothing to the pin and returns. -/
def beginCall (elapsed : Timestamp → Timestamp → Seconds) (minPeriod : Seconds) (now : Timestamp) (blockBusy : Bool)
    (hum temp : Byte) (op : DriverOp) (d : Driver) : DriverAct :=
  let read := { d with clockReads := d.clockReads + 1 }
  if mayProceed elapsed minPeriod d.lastTs now then beginTransaction blockBusy op { read with lastTs := some now }
  else finishCall op hum temp read

/-- The driver at a tick boundary. `call` is what the application asks for if the driver is ready; `blockBusy`, `hum`,
`temp` are the block's ports in the tick that begins (R184: it "never reads `status` or `frame_o`"). -/
def driverAct (elapsed : Timestamp → Timestamp → Seconds) (minPeriod : Seconds) (now : Timestamp) (blockBusy : Bool)
    (hum temp : Byte) (call : Option DriverOp) (d : Driver) : DriverAct :=
  match d.phase with
  | .ready =>
    match call with
    | none => { driver := d, start := false }
    | some op => beginCall elapsed minPeriod now blockBusy hum temp op { d with calls := d.calls.tail }
  | .starting op => beginTransaction blockBusy op d
  | .waiting op => if blockBusy then { driver := d, start := false } else finishCall op hum temp d

end Sys2Proof.Machine
end

