-- ==== Sys2Proof/Machine/Environment.lean ====
section
/-!
DEFINITION. The agents around the block (spec/00_scope.md R9) between two ticks: the inputs of the next tick come from the
pending triples, then from the tail (30_encoding.md R101, or a draw per tick), and the host driver acts if it is the host.
-/

namespace Sys2Proof.Machine

/-- The next tick's inputs before the host driver has its say: the oldest pending triple; else R101's held inputs, or draws. -/
def rawInputs (s : State) : Inputs :=
  match s.pending with
  | i :: _ => i
  | [] =>
    match s.tail with
    | .held => { rst := false, start := false, pinIn := s.inp.pinIn }
    | .drawn =>
      { rst := Config.drawRst (s.tick + 1)
        start := Config.drawStart (s.tick + 1)
        pinIn := Config.drawLevel (s.tick + 1) }

/-- What the application asks of the driver: its oldest call not yet begun; with none left, nothing, or a draw. -/
def nextCall (s : State) : Option DriverOp :=
  match s.driver.calls with
  | op :: _ => some op
  | [] =>
    match s.tail with
    | .held => none
    | .drawn => Config.drawCall (s.tick + 1)

/-- The driver of this machine: its clock is the free values of Config (R180). -/
def driverStep (s : State) : DriverAct :=
  driverAct Config.elapsedSeconds s.cfg.minPeriodS (Config.now s.driver.clockReads) (busy s) s.hum s.temp
    (nextCall s) s.driver

/-- From the registers a tick leaves to the next tick: its ports, its number, the driver. The driver "never drives
`rst`" and is the only one to drive `start` (R184, R190). -/
def nextTick (s : State) : State :=
  let raw := rawInputs s
  match s.host with
  | .free => { s with inp := raw, pending := s.pending.tail, tick := s.tick + 1 }
  | .driver =>
    { s with
      inp := { rst := false, start := (driverStep s).start, pinIn := raw.pinIn }
      pending := s.pending.tail
      tick := s.tick + 1
      driver := (driverStep s).driver }

end Sys2Proof.Machine
end

