-- ==== Sys2Proof/Machine/Step.lean ====
section
/-!
DEFINITION. One tick of the machine (spec/10_state.md R42): the block's step, then the agents around it set the next
tick's inputs. And withFetchWord, which places a table word where step finds the next instruction.
-/

namespace Sys2Proof.Machine

/-- One tick. A configuration outside R7 is refused; otherwise the tick's instruction runs and the next tick begins. -/
def step (s : State) : Host.Outcome State Fault Refusal :=
  if s.cfg.legal then
    match exec (fetch s) s with
    | .next t => .next (nextTick t)
    | .fault r => .fault r
    | .refused r => .refused r
  else .refused .illegalConfiguration

/-- The machine with the table word `w` placed where `step` finds its instruction: a strobe word (up to 2 bits) on the
ports `rst` and `start`, a state code in `st` with no strobe raised (log 10, log 16). -/
def State.withFetchWord (s : State) (nbits w : Nat) : State :=
  match codeOfNat nbits w with
  | .ok (.strobe2 v) => { s with inp := { s.inp with rst := v[1], start := v[0] } }
  | .ok (.state4 c) => { s with st := c, inp := { s.inp with rst := false, start := false } }
  | .error _ => s

end Sys2Proof.Machine
end

