-- ==== Sys2Proof/Machine/Stimulus.lean ====
section
/-!
DEFINITION. The stimulus notation of spec/30_encoding.md R101 and R102: statements, pseudo-statements, the input triples
they expand to, and the loading of a stimulus program into the machine (log 16, log 19, log 20).
-/

namespace Sys2Proof.Machine

/-- The statements of R101 and the pseudo-statements of R102. R101's counts are at least 1; DESIGN CHOICE (log 19): a count of 0
is admitted and stands for no tick. -/
inductive Stmt
  | rst (n : Nat)
  | start
  | high (n : Nat)
  | low (n : Nat)
  | hostPulse
  | ack
  | b0
  | b1
  | byte (v : Byte)
  | frame (a b c d e : Byte)
  | txn (a b c d e : Byte)
  deriving DecidableEq, Repr

/-- `RST*n`: `rst` 1, `start` 0, `pin_in` 1 (R101). -/
def rstTicks (n : Nat) : List Inputs := List.replicate n { rst := true, start := false, pinIn := true }

/-- `START`: one tick, `rst` 0, `start` 1, `pin_in` 1 (R101). -/
def startTick : List Inputs := [{ rst := false, start := true, pinIn := true }]

/-- `H*n`: `rst` 0, `start` 0, `pin_in` 1 (R101). -/
def highTicks (n : Nat) : List Inputs := List.replicate n { rst := false, start := false, pinIn := true }

/-- `L*n`: `rst` 0, `start` 0, `pin_in` 0 (R101). -/
def lowTicks (n : Nat) : List Inputs := List.replicate n { rst := false, start := false, pinIn := false }

/-- `HOSTPULSE` = `L*20000 H*30` (R102, which gives it for the default parameters). DESIGN CHOICE (log 20): the same triples with
any other HOLD_LOW and RELEASE. -/
def hostPulseTicks : List Inputs := lowTicks 20000 ++ highTicks 30

/-- `ACK` = `H*10 L*80 H*70` (R102). DESIGN CHOICE (log 20): the same with other parameters than the defaults. -/
def ackTicks : List Inputs := highTicks 10 ++ lowTicks 80 ++ highTicks 70

/-- `B0` = `L*50 H*30` and `B1` = `L*20 H*60` (R102). DESIGN CHOICE (log 20): the same with other parameters than the defaults, with
which the block may read them otherwise. -/
def symbolTicks (bit : Bool) : List Inputs :=
  if bit then lowTicks 20 ++ highTicks 60 else lowTicks 50 ++ highTicks 30

/-- `BYTE(v)` = B`v[7]` ... B`v[0]`, most significant bit first (R102). -/
def byteTicks (v : Byte) : List Inputs :=
  symbolTicks v[7] ++ symbolTicks v[6] ++ symbolTicks v[5] ++ symbolTicks v[4] ++
    symbolTicks v[3] ++ symbolTicks v[2] ++ symbolTicks v[1] ++ symbolTicks v[0]

/-- `FRAME(a,b,c,d,e)`: five bytes (R102). -/
def frameTicks (a b c d e : Byte) : List Inputs :=
  byteTicks a ++ byteTicks b ++ byteTicks c ++ byteTicks d ++ byteTicks e

/-- `TXN(a,b,c,d,e)` = `START H HOSTPULSE ACK FRAME(a,b,c,d,e)` (R102). -/
def txnTicks (a b c d e : Byte) : List Inputs :=
  startTick ++ highTicks 1 ++ hostPulseTicks ++ ackTicks ++ frameTicks a b c d e

/-- The triples a statement expands to, one per tick, in order (R101, R102). -/
def stmtTicks : Stmt → List Inputs
  | .rst n => rstTicks n
  | .start => startTick
  | .high n => highTicks n
  | .low n => lowTicks n
  | .hostPulse => hostPulseTicks
  | .ack => ackTicks
  | .b0 => symbolTicks false
  | .b1 => symbolTicks true
  | .byte v => byteTicks v
  | .frame a b c d e => frameTicks a b c d e
  | .txn a b c d e => txnTicks a b c d e

/-- The encoding of a stimulus program: the statements' triples in order (R101). -/
def programTicks (p : List Stmt) : List Inputs := p.flatMap stmtTicks

/-- The machine with these triples as the inputs of this tick and the next ones, and after them R101's held inputs. R101 has
no program without ticks ("each statement stands for one or more ticks"). DESIGN CHOICE (log 19): an empty list of triples
leaves the ports of this tick as they are and takes away what was pending, so that the held inputs follow at once. -/
def loadTicks (s : State) (ticks : List Inputs) : State :=
  match ticks with
  | [] => { s with pending := [], tail := .held, host := .free }
  | i :: rest => { s with inp := i, pending := rest, tail := .held, host := .free }

/-- The machine with a stimulus program loaded (R101; log 16). -/
def loadProgram (s : State) (p : List Stmt) : State := loadTicks s (programTicks p)

end Sys2Proof.Machine
end

