-- ==== Sys2Proof/Safety.lean ====
section
/-!
DEFINITION. The terms in which claims are made: runs of whole ticks, the parameters of the wait and delay states, the
length bounds of a transaction (spec/70_reset_and_hazards.md R245), and the invariant of 10_state.md R43.
-/

namespace Sys2Proof.Machine

/-- The machine after `k` ticks, stopping where a step stops: the host's `Core.run` of this machine
(Laws/Step.lean: `coreRun_eq_runTicks`). -/
def runTicks : Nat → State → Host.Outcome State Fault Refusal
  | 0, s => .next s
  | k + 1, s =>
    match step s with
    | .next t => runTicks k t
    | .fault r => .fault r
    | .refused r => .refused r

/-- At each of the first `n` ticks of the run from `s` the inputs of tick `k` satisfy `P k`. -/
def InputsAlong (s : State) (n : Nat) (P : Nat → Inputs → Prop) : Prop :=
  ∀ k, k < n → ∀ t, runTicks k s = .next t → P k t.inp

/-- The target level and the bound of a wait state (R90); none for any other code. -/
def waitOf (c : Config) (st : StateCode) : Option (Level × Nat) :=
  match st.toNat with
  | 1 => some (true, c.tIdle)
  | 4 => some (false, c.tAck)
  | 5 => some (true, c.tAck)
  | 6 => some (false, c.tBitStart)
  | 8 => some (true, c.tBitEnd)
  | _ => none

/-- The length of a delay state (R90); none for any other code. -/
def delayOf (c : Config) (st : StateCode) : Option Nat :=
  match st.toNat with
  | 2 => some c.holdLow
  | 3 => some c.release
  | 7 => some c.settle
  | _ => none

/-- How many ticks a wait or delay state may be current: `cnt` stays below it (R43 item 3). -/
def ticksOf (c : Config) (st : StateCode) : Option Nat :=
  match waitOf c st with
  | some (_, n) => some n
  | none => delayOf c st

/-- The eight values of `status` (R94). -/
def statusValues : List StatusWord := [0x00#6, 0x01#6, 0x03#6, 0x06#6, 0x12#6, 0x16#6, 0x1A#6, 0x22#6]

/-- The greatest number of ticks from WAIT_IDLE's first tick to the next IDLE tick (R245, "In general"). -/
def longestRun (c : Config) : Nat :=
  c.tIdle + c.holdLow + c.release + c.tAck + c.tAck + 40 * (c.tBitStart + c.settle + c.tBitEnd) + 2

/-- The least number of ticks from the acceptance tick to the IDLE tick after VALIDATE (R245, "In general"). -/
def shortestTransaction (c : Config) : Nat :=
  1 + 1 + c.holdLow + c.release + 1 + 1 + 40 * (1 + c.settle + 1) + 2

/-- The invariant of the reachable states (R43 items 1 to 4 and 6), with what R160 and R124 say beside it: `idx` is 39
in ASSEMBLE and VALIDATE, `frame` is zero until ASSEMBLE has run and then is the buffer's packing, and the pull-up is
requested from DRIVE_HIGH on. -/
structure Inv (s : State) : Prop where
  legal : s.cfg.legal = true
  stLegal : s.st.toNat ≤ 10
  idxRange : s.idx.toNat ≤ 39
  idxInitiator : 1 ≤ s.st.toNat → s.st.toNat ≤ 5 → s.idx = 0#6
  idxComplete : s.st = stAssemble ∨ s.st = stValidate → s.idx = 39#6
  cntRest : s.st = stIdle ∨ s.st = stAssemble ∨ s.st = stValidate → s.cnt = 0
  cntBound : ∀ n, ticksOf s.cfg s.st = some n → s.cnt ≤ n - 1
  frameZero : 1 ≤ s.st.toNat → s.st.toNat ≤ 9 → s.frame = Vector.replicate 5 0x00#8
  framePacked : s.st = stValidate → s.frame = packFrame s.bitbuf
  bitsUnsampled : 1 ≤ s.st.toNat → s.st.toNat ≤ 8 → ∀ i : Fin 40,
    s.idx.toNat < i.val ∨ (s.idx.toNat = i.val ∧ s.st ≠ stBitEnd) → s.bitbuf[i] = false
  statusValue : s.status ∈ statusValues
  pullRequested : 3 ≤ s.st.toNat → s.st.toNat ≤ 10 → s.pull = true

end Sys2Proof.Machine
end

