-- ==== Sys2Proof/Certificates/Slice0/Obligations.lean ====
section
/-!
DEFINITION. The statements for the provers. Each names the rule of spec/ it formalises. Values are written as numbers, not as
the model's names for them, so that a statement can disagree with the model.
-/

open Sys2Proof Sys2Proof.Machine

/-! ## Encodings -/

/-- R90, R99: the decoder reads back every instruction's word, and a word that decodes to an instruction is the one the
encoder writes, but for the word 11 of RST, whose `start` bit is "don't care". -/
def Obligations.DecodeOfEncodeIsTheInstruction : Prop :=
  (∀ i : Instr, decode (encode i) = .ok i) ∧
  ∀ (c : Code) (i : Instr), decode c = .ok i → encode i = c ∨ (i = .rst ∧ c = .strobe2 3#2)

/-- R90, R93, R99: words written out from the tables. -/
def Obligations.TableWordsDecodeAsTabulated : Prop :=
  decode (.state4 0b0000#4) = .ok .idle ∧ decode (.state4 0b0001#4) = .ok .waitIdle ∧
  decode (.state4 0b0010#4) = .ok .driveLow ∧ decode (.state4 0b0101#4) = .ok .ackHigh ∧
  decode (.state4 0b0111#4) = .ok .bitSettle ∧ decode (.state4 0b1000#4) = .ok .bitEnd ∧
  decode (.state4 0b1001#4) = .ok .assemble ∧ decode (.state4 0b1010#4) = .ok .validate ∧
  decode (.state4 0b1101#4) = .ok .reserved13 ∧ decode (.strobe2 0b01#2) = .ok .start ∧
  decode (.strobe2 0b10#2) = .ok .rst ∧ decode (.strobe2 0b11#2) = .ok .rst ∧
  decode (.strobe2 0b00#2) = .error .noCommand

/-- R101, R102: the triples of every statement and pseudo-statement, and of a program. A count of 0, which R101 does not have,
and an empty program stand for no tick (the model's choice, log 19). R102 gives its expansions for the default parameters;
that they are the same with any others is the model's choice too (log 20). -/
def Obligations.StimulusStatementsExpandAsTabulated : Prop :=
  (∀ n, stmtTicks (.rst n) = List.replicate n ⟨true, false, true⟩) ∧
  stmtTicks .start = [⟨false, true, true⟩] ∧
  (∀ n, stmtTicks (.high n) = List.replicate n ⟨false, false, true⟩) ∧
  (∀ n, stmtTicks (.low n) = List.replicate n ⟨false, false, false⟩) ∧
  stmtTicks .hostPulse = List.replicate 20000 ⟨false, false, false⟩ ++ List.replicate 30 ⟨false, false, true⟩ ∧
  stmtTicks .ack = List.replicate 10 ⟨false, false, true⟩ ++ List.replicate 80 ⟨false, false, false⟩ ++
    List.replicate 70 ⟨false, false, true⟩ ∧
  stmtTicks .b0 = List.replicate 50 ⟨false, false, false⟩ ++ List.replicate 30 ⟨false, false, true⟩ ∧
  stmtTicks .b1 = List.replicate 20 ⟨false, false, false⟩ ++ List.replicate 60 ⟨false, false, true⟩ ∧
  (∀ v : Byte, stmtTicks (.byte v) =
    [7, 6, 5, 4, 3, 2, 1, 0].flatMap fun j => stmtTicks (if v.getLsbD j = true then .b1 else .b0)) ∧
  (∀ a b c d e, stmtTicks (.frame a b c d e) = programTicks [.byte a, .byte b, .byte c, .byte d, .byte e]) ∧
  (∀ a b c d e, stmtTicks (.txn a b c d e) = programTicks [.start, .high 1, .hostPulse, .ack, .frame a b c d e]) ∧
  programTicks [] = [] ∧ (∀ x, programTicks [x] = stmtTicks x) ∧
  (∀ p q, programTicks (p ++ q) = programTicks p ++ programTicks q) ∧
  (∀ v, (stmtTicks (.byte v)).length = 640) ∧
  (∀ a b c d e, (stmtTicks (.frame a b c d e)).length = 3200) ∧
  (∀ a b c d e, (stmtTicks (.txn a b c d e)).length = 23392)

/-! ## The step -/

/-- R42: with `rst` = 1 a tick is the reset, else it is the micro-operation `st` decodes to, whatever `start` is. After it
`nextTick` sets the next tick's ports. -/
def Obligations.StepRunsTheDecodedInstruction : Prop :=
  ∀ s : State, s.cfg.legal = true →
    (s.inp.rst = true → ∀ t, exec .rst s = .next t → step s = .next (nextTick t)) ∧
    (s.inp.rst = false → ∀ i, decode (.state4 s.st) = .ok i →
      ∀ t, exec i s = .next t → step s = .next (nextTick t))

/-- The decoder and the fetch read a word alike: where the strobes decode to an instruction the step runs it (log 1), and a
table word placed by `withFetchWord` is what the next step runs. Where a word is placed and in which format a width is read is
the model's own convention (log 10). -/
def Obligations.PlacedWordIsTheNextInstruction : Prop :=
  (∀ (s : State) (i : Instr), s.cfg.legal = true →
    decode (.strobe2 (BitVec.ofBool s.inp.rst ++ BitVec.ofBool s.inp.start)) = .ok i →
    ∃ t, exec i s = .next t ∧ step s = .next (nextTick t)) ∧
  ∀ (s : State) (nbits w : Nat) (i : Instr), s.cfg.legal = true → decodeTableWord nbits w = some i →
    ∃ t, exec i (s.withFetchWord nbits w) = .next t ∧ step (s.withFetchWord nbits w) = .next (nextTick t)

/-- R7, R9, R200: a configuration inside R7's ranges always answers a next state and keeps its parameters, one outside is
refused. The parameters stand in the state (the model's choice, log 2). -/
def Obligations.StepAnswersIffConfigurationIsLegal : Prop :=
  ∀ s : State,
    let c := s.cfg
    let inRange := fun n : Nat => 1 ≤ n ∧ n < 2 ^ c.cntWidth
    let ok := inRange c.tIdle ∧ inRange c.holdLow ∧ inRange c.release ∧ inRange c.tAck ∧ inRange c.tBitStart ∧
      inRange c.settle ∧ inRange c.tBitEnd ∧ 0 ≤ c.minPeriodS
    (ok → ∃ t, step s = .next t ∧ t.cfg = s.cfg) ∧ (¬ ok → step s = .refused .illegalConfiguration)

/-- R8, R23, D18: CNT_W is the least width that holds every tick parameter, it is 15 with the defaults, and from every state
whose counter has that width a step leaves one whose counter has it. That the counter is a natural number with this width as
an invariant is the model's choice (log 2). -/
def Obligations.CounterKeepsTheLeastWidth : Prop :=
  (∀ (c : Config) (w : Nat), c.legal = true →
    ((∀ n ∈ [c.tIdle, c.holdLow, c.release, c.tAck, c.tBitStart, c.settle, c.tBitEnd], n < 2 ^ w) ↔ c.cntWidth ≤ w)) ∧
  Config.default.cntWidth = 15 ∧
  ∀ s t : State, s.cnt < 2 ^ s.cfg.cntWidth → step s = .next t → t.cnt < 2 ^ t.cfg.cntWidth

/-- R101 and log 3: where the next tick's inputs come from when the host is free. -/
def Obligations.NextInputsComeFromTheStimulus : Prop :=
  ∀ s t : State, s.host = .free → step s = .next t →
    (∀ i rest, s.pending = i :: rest → t.inp = i ∧ t.pending = rest) ∧
    (s.pending = [] → s.tail = .held → t.inp = ⟨false, false, s.inp.pinIn⟩ ∧ t.pending = []) ∧
    (s.pending = [] → s.tail = .drawn →
      t.inp = ⟨Config.drawRst t.tick, Config.drawStart t.tick, Config.drawLevel t.tick⟩) ∧
    t.tick = s.tick + 1 ∧ t.driver = s.driver ∧ t.cfg = s.cfg ∧ t.tail = s.tail ∧ t.host = s.host

/-! ## The meaning of each instruction -/

/-- R120: IDLE. -/
def Obligations.IdleAcceptsOnStartElseRests : Prop :=
  ∀ s : State, exec .idle s = .next
    (if s.inp.start = true then
      { s with frame := Vector.replicate 5 0x00#8, bitbuf := Vector.replicate 40 false, idx := 0#6, cnt := 0, st := 1#4 }
    else s)

/-- R99, R120, R126: START accepts a transaction in IDLE; in any other state it is not read, so the tick is the
state's own micro-operation (the model's reading, log 9). -/
def Obligations.StartAcceptsOnlyInIdle : Prop :=
  ∀ s : State,
    (s.st = 0#4 → exec .start s = .next
      { s with frame := Vector.replicate 5 0x00#8, bitbuf := Vector.replicate 40 false, idx := 0#6, cnt := 0, st := 1#4 }) ∧
    (s.st ≠ 0#4 → exec .start s = exec (decodeState s.st) s ∧ ∃ t, exec .start s = .next t)

/-- R230, R37: RST, and the outputs in the tick after it. That the parameters of the launch state are the defaults of R5, and
that the driver's variables outlive RST, is the model's choice (log 2, log 7). -/
def Obligations.RstGivesEveryRegisterItsResetValue : Prop :=
  (∀ s : State, exec .rst s = .next
    { s with st := 0#4, cnt := 0, idx := 0#6, bitbuf := Vector.replicate 40 false, frame := Vector.replicate 5 0x00#8,
             hum := 0x00#8, temp := 0x00#8, status := 0b000000#6, pull := false }) ∧
  (∀ s : State, s.cfg.legal = true → s.inp.rst = true → ∃ t, step s = .next t ∧
    t.st = 0#4 ∧ t.cnt = 0 ∧ t.idx = 0#6 ∧ t.bitbuf = Vector.replicate 40 false ∧ t.frame = Vector.replicate 5 0x00#8 ∧
    t.hum = 0x00#8 ∧ t.temp = 0x00#8 ∧ t.status = 0b000000#6 ∧ t.pull = false ∧
    busy t = false ∧ pinOe t = false ∧ pinOut t = false ∧ pinPull t = false) ∧
  State.reset.cfg =
    { tIdle := 250, holdLow := 20000, release := 30, tAck := 100, tBitStart := 75, settle := 40, tBitEnd := 50, minPeriodS := 3 }

/-- R37: a tick with `rst` = 1 gives every register the value the table lists, whatever `st`, `start` and `pin_in` are; and
the launch state has these values, the outputs that follow from them, and no timestamp in the driver. That the tick itself
leaves the driver's variables as they were is the model's reading (log 7). -/
def Obligations.ResetStateHoldsTheTabulatedValues : Prop :=
  let r := State.reset
  (∀ s : State, s.cfg.legal = true → s.inp.rst = true → step s = .next (nextTick
    { s with st := 0#4, cnt := 0, idx := 0#6, bitbuf := Vector.replicate 40 false, frame := Vector.replicate 5 0x00#8,
             hum := 0x00#8, temp := 0x00#8, status := 0b000000#6, pull := false })) ∧
  r.st = 0#4 ∧ r.cnt = 0 ∧ r.idx = 0#6 ∧ (∀ i : Fin 40, r.bitbuf[i] = false) ∧ (∀ i : Fin 5, r.frame[i] = 0x00#8) ∧
  r.hum = 0x00#8 ∧ r.temp = 0x00#8 ∧ r.status = 0b000000#6 ∧ r.pull = false ∧
  outputs r = { pinOe := false, pinOut := false, pinPull := false, busy := false, status := 0#6, frameO := 0#40, hum := 0#8, temp := 0#8 } ∧
  r.driver.lastTs = none

/-- R121: WAIT_IDLE. -/
def Obligations.WaitIdleWaitsForHigh : Prop :=
  ∀ s : State, exec .waitIdle s = .next
    (if s.inp.pinIn = true then { s with st := 2#4, cnt := 0 }
    else if s.cfg.tIdle - 1 ≤ s.cnt then { s with status := 0x06#6, cnt := 0, st := 0#4 }
    else { s with cnt := s.cnt + 1 })

/-- R122: DRIVE_LOW. -/
def Obligations.DriveLowHoldsThenRequestsPullUp : Prop :=
  ∀ s : State, exec .driveLow s = .next
    (if s.cfg.holdLow - 1 ≤ s.cnt then { s with pull := true, st := 3#4, cnt := 0 }
    else { s with cnt := s.cnt + 1 })

/-- R123: DRIVE_HIGH. -/
def Obligations.DriveHighHoldsThenReleases : Prop :=
  ∀ s : State, exec .driveHigh s = .next
    (if s.cfg.release - 1 ≤ s.cnt then { s with st := 4#4, cnt := 0 } else { s with cnt := s.cnt + 1 })

/-- R124: ACK_LOW. -/
def Obligations.AckLowWaitsForLow : Prop :=
  ∀ s : State, exec .ackLow s = .next
    (if s.inp.pinIn = false then { s with st := 5#4, cnt := 0 }
    else if s.cfg.tAck - 1 ≤ s.cnt then { s with status := 0x12#6, cnt := 0, st := 0#4 }
    else { s with cnt := s.cnt + 1 })

/-- R125: ACK_HIGH. -/
def Obligations.AckHighWaitsForHigh : Prop :=
  ∀ s : State, exec .ackHigh s = .next
    (if s.inp.pinIn = true then { s with st := 6#4, cnt := 0 }
    else if s.cfg.tAck - 1 ≤ s.cnt then { s with status := 0x16#6, cnt := 0, st := 0#4 }
    else { s with cnt := s.cnt + 1 })

/-- R140: BIT_START. -/
def Obligations.BitStartWaitsForLow : Prop :=
  ∀ s : State, exec .bitStart s = .next
    (if s.inp.pinIn = false then { s with st := 7#4, cnt := 0 }
    else if s.cfg.tBitStart - 1 ≤ s.cnt then { s with status := 0x1A#6, cnt := 0, st := 0#4 }
    else { s with cnt := s.cnt + 1 })

/-- R141: BIT_SETTLE, and what it writes: element `idx` of the buffer, and no other element. -/
def Obligations.BitSettleSamplesOnItsLastTick : Prop :=
  ∀ s : State,
    (s.cnt < s.cfg.settle - 1 → exec .bitSettle s = .next { s with cnt := s.cnt + 1 }) ∧
    (s.cfg.settle - 1 ≤ s.cnt → ∃ b : Vector Bool 40,
      exec .bitSettle s = .next { s with bitbuf := b, cnt := 0, st := 8#4 } ∧
      ∀ j : Fin 40, b[j] = if s.idx.toNat = j.val then s.inp.pinIn else s.bitbuf[j])

/-- R142: BIT_END. -/
def Obligations.BitEndWaitsForHighThenNextBit : Prop :=
  ∀ s : State, exec .bitEnd s = .next
    (if s.inp.pinIn = true then
      (if 39 ≤ s.idx.toNat then { s with st := 9#4, cnt := 0 } else { s with idx := s.idx + 1#6, st := 6#4, cnt := 0 })
    else if s.cfg.tBitEnd - 1 ≤ s.cnt then { s with status := 0x22#6, cnt := 0, st := 0#4 }
    else { s with cnt := s.cnt + 1 })

/-- R160, R96: ASSEMBLE writes the five bytes, as numbers the sums of R96, and changes nothing else but `st`. -/
def Obligations.AssemblePacksMostSignificantBitFirst : Prop :=
  ∀ s : State, ∃ f : Vector Byte 5, exec .assemble s = .next { s with frame := f, st := 10#4 } ∧
    ∀ i : Fin 5, f[i].toNat = ∑ j : Fin 8, (s.bitbuf[8 * i.val + j.val]'(by omega)).toNat * 2 ^ (7 - j.val)

/-- R170, R172, R173: VALIDATE, with the checksum in exact numbers; every frame is accepted or rejected by it alone. -/
def Obligations.ValidateCommitsExactlyTheMatchingFrames : Prop :=
  ∀ s : State, exec .validate s = .next
    (if (s.frame[0].toNat + s.frame[1].toNat + s.frame[2].toNat + s.frame[3].toNat) % 256 = s.frame[4].toNat then
      { s with hum := s.frame[0], temp := s.frame[2], status := 0x01#6, st := 0#4 }
    else { s with status := 0x03#6, st := 0#4 })

/-- R93: the reserved codes, their step, their outputs, and that no legal code steps to one. -/
def Obligations.ReservedCodesReturnToIdle : Prop :=
  (∀ (s : State) (i : Instr), i ∈ [Instr.reserved11, .reserved12, .reserved13, .reserved14, .reserved15] →
    exec i s = .next { s with st := 0#4, cnt := 0 }) ∧
  (∀ c : StateCode, 11 ≤ c.toNat →
    decodeState c ∈ [Instr.reserved11, .reserved12, .reserved13, .reserved14, .reserved15]) ∧
  (∀ s : State, 11 ≤ s.st.toNat → busy s = true ∧ pinOe s = false ∧ pinOut s = false) ∧
  (∀ s t : State, s.st.toNat ≤ 10 → step s = .next t → t.st.toNat ≤ 10) ∧
  State.reset.st = 0#4

/-! ## Frames and whole-machine rules -/

/-- R20 (its column "written by", with the clears of R93, R120, R203 and R37) and R66: which instruction may change which
register. START is here the row of the state it stands for (the model's reading of R126, log 9). No instruction changes the
ports, the parameters, the sources of the inputs or the driver, RST included (the model's reading of R37, log 7). -/
def Obligations.EachRegisterChangesOnlyByItsWriters : Prop :=
  ∀ (i : Instr) (s t : State), exec i s = .next t →
    let j := if i = .start then (if s.st = 0#4 then Instr.idle else decodeState s.st) else i
    (t.cnt ≠ s.cnt → j ∈ [Instr.idle, .waitIdle, .driveLow, .driveHigh, .ackLow, .ackHigh, .bitStart, .bitSettle, .bitEnd,
      .reserved11, .reserved12, .reserved13, .reserved14, .reserved15, .rst]) ∧
    (t.idx ≠ s.idx → j ∈ [Instr.idle, .bitEnd, .rst]) ∧
    (t.bitbuf ≠ s.bitbuf → j ∈ [Instr.idle, .bitSettle, .rst]) ∧
    (t.frame ≠ s.frame → j ∈ [Instr.idle, .assemble, .rst]) ∧
    (t.hum ≠ s.hum ∨ t.temp ≠ s.temp → j ∈ [Instr.validate, .rst]) ∧
    (t.status ≠ s.status → j ∈ [Instr.waitIdle, .ackLow, .ackHigh, .bitStart, .bitEnd, .validate, .rst]) ∧
    (t.pull ≠ s.pull → j ∈ [Instr.driveLow, .rst]) ∧
    t.inp = s.inp ∧ t.cfg = s.cfg ∧ t.pending = s.pending ∧ t.tail = s.tail ∧ t.host = s.host ∧ t.tick = s.tick ∧
    t.driver = s.driver

/-- R43 item 5, R66, R171: the cached reading changes only at a VALIDATE tick whose checksum matches, both values at once,
or at a reset. -/
def Obligations.CacheChangesOnlyAtMatchingValidate : Prop :=
  ∀ s t : State, step s = .next t → s.inp.rst = false →
    (t.hum = s.hum ∧ t.temp = s.temp) ∨
    (s.st = 10#4 ∧ t.hum = s.frame[0] ∧ t.temp = s.frame[2] ∧ t.status = 0x01#6 ∧ t.st = 0#4 ∧
      (s.frame[0].toNat + s.frame[1].toNat + s.frame[2].toNat + s.frame[3].toNat) % 256 = s.frame[4].toNat)

/-- R28, R71: `status` changes only at the tick that ends a transaction, when `busy` falls. -/
def Obligations.StatusChangesOnlyWhenBusyFalls : Prop :=
  ∀ s t : State, step s = .next t → s.inp.rst = false → t.status ≠ s.status →
    busy s = true ∧ busy t = false ∧
    ((t.status.toNat = 4 * s.st.toNat + 2 ∧ s.st ∈ [1#4, 4#4, 5#4, 6#4, 8#4]) ∨
      (s.st = 10#4 ∧ (t.status = 0x01#6 ∨ t.status = 0x03#6)))

/-- R43 item 7, R29: the pull-up request is set at the end of DRIVE_LOW and cleared by nothing but `rst`. -/
def Obligations.PullUpStaysUntilReset : Prop :=
  ∀ s t : State, step s = .next t → s.inp.rst = false →
    (s.pull = true → t.pull = true) ∧ (t.pull = true → s.pull = true ∨ (s.st = 2#4 ∧ t.st = 3#4))

/-- R36: the output ports, of every state, whatever the inputs of the tick are. -/
def Obligations.OutputsDependOnRegistersOnly : Prop :=
  ∀ (s : State) (i : Inputs),
    outputs { s with inp := i } = outputs s ∧
    (busy s = true ↔ s.st ≠ 0#4) ∧ (pinOe s = true ↔ s.st = 2#4 ∨ s.st = 3#4) ∧ (pinOut s = true ↔ s.st = 3#4) ∧
    pinPull s = s.pull ∧ (outputs s).status = s.status ∧ (outputs s).hum = s.hum ∧ (outputs s).temp = s.temp ∧
    (outputs s).frameO = s.frame[0] ++ s.frame[1] ++ s.frame[2] ++ s.frame[3] ++ s.frame[4] ∧ (outputs s).busy = busy s ∧ (outputs s).pinOe = pinOe s ∧
    (outputs s).pinOut = pinOut s ∧ (outputs s).pinPull = pinPull s

/-- R92: every transition of `st` with its condition, and no other; and what the table notes beside a transition: the
registers of a reset, the `fail` code of an abort, the bit sampled, the next index, the two results of VALIDATE. -/
def Obligations.TransitionsOfStAreThoseOfTheTable : Prop :=
  ∀ s t : State, step s = .next t →
    let c := s.cnt
    let p := s.inp.pinIn
    let atBound := fun n : Nat => n - 1 ≤ c
    (t.st = if s.inp.rst = true then 0#4 else
      if s.st = 0#4 then (if s.inp.start = true then 1#4 else 0#4)
      else if s.st = 1#4 then (if p = true then 2#4 else if atBound s.cfg.tIdle then 0#4 else 1#4)
      else if s.st = 2#4 then (if atBound s.cfg.holdLow then 3#4 else 2#4)
      else if s.st = 3#4 then (if atBound s.cfg.release then 4#4 else 3#4)
      else if s.st = 4#4 then (if p = false then 5#4 else if atBound s.cfg.tAck then 0#4 else 4#4)
      else if s.st = 5#4 then (if p = true then 6#4 else if atBound s.cfg.tAck then 0#4 else 5#4)
      else if s.st = 6#4 then (if p = false then 7#4 else if atBound s.cfg.tBitStart then 0#4 else 6#4)
      else if s.st = 7#4 then (if atBound s.cfg.settle then 8#4 else 7#4)
      else if s.st = 8#4 then
        (if p = true then (if s.idx.toNat < 39 then 6#4 else 9#4) else if atBound s.cfg.tBitEnd then 0#4 else 8#4)
      else if s.st = 9#4 then 10#4
      else 0#4) ∧
    (s.inp.rst = true → t.cnt = 0 ∧ t.idx = 0#6 ∧ t.bitbuf = Vector.replicate 40 false ∧
      t.frame = Vector.replicate 5 0x00#8 ∧ t.hum = 0x00#8 ∧ t.temp = 0x00#8 ∧ t.status = 0x00#6 ∧ t.pull = false) ∧
    (s.inp.rst = false → s.st ∈ [1#4, 4#4, 5#4, 6#4, 8#4] → t.st = 0#4 → t.status.toNat = 4 * s.st.toNat + 2) ∧
    (s.inp.rst = false → s.st = 7#4 → t.st = 8#4 → ∀ j : Fin 40, s.idx.toNat = j.val → t.bitbuf[j] = p) ∧
    (s.inp.rst = false → s.st = 8#4 → t.st = 6#4 → t.idx.toNat = s.idx.toNat + 1) ∧
    (s.inp.rst = false → s.st = 10#4 → t.status = 0x01#6 ∨ t.status = 0x03#6)

/-- R126: in every state but IDLE `start` is not read: the whole next state is the same whatever `start` is. -/
def Obligations.StartIsNotReadWhileBusy : Prop :=
  ∀ (s : State) (b : Bool), s.st ≠ 0#4 → step { s with inp := { s.inp with start := b } } = step s

/-- R26 to R29: the block never reads `hum`, `temp`, `status` or `pull`. Two runs of any length that differ only in them at
their start agree at every tick in the other five registers, in the inputs and in the pin's direction and level, whoever the host is. -/
def Obligations.CacheStatusAndPullAreNeverRead : Prop :=
  ∀ (s t : State) (k : Nat) (hum temp : Byte) (status : StatusWord) (pull : Bool), runTicks k s = .next t →
    ∃ t', runTicks k { s with hum := hum, temp := temp, status := status, pull := pull } = .next t' ∧
      t'.st = t.st ∧ t'.cnt = t.cnt ∧ t'.idx = t.idx ∧ t'.bitbuf = t.bitbuf ∧ t'.frame = t.frame ∧ t'.inp = t.inp ∧
      busy t' = busy t ∧ pinOe t' = pinOe t ∧ pinOut t' = pinOut t

/-- R32: `pin_in` is read only by the five wait states and by the last tick of BIT_SETTLE. -/
def Obligations.PinInIsReadOnlyByWaitsAndTheSample : Prop :=
  ∀ (s : State) (p : Bool), s.inp.rst = true ∨ (s.st ∉ [1#4, 4#4, 5#4, 6#4, 8#4] ∧ (s.st = 7#4 → s.cnt < s.cfg.settle - 1)) →
    ∀ t, exec (fetch s) s = .next t →
      exec (fetch { s with inp := { s.inp with pinIn := p } }) { s with inp := { s.inp with pinIn := p } } =
        .next { t with inp := { t.inp with pinIn := p } }

/-! ## Failures -/

/-- R203: the abort, from each of the five wait states: three registers written, nothing else, the pin already an input. -/
def Obligations.TimeoutWritesStatusCntAndStOnly : Prop :=
  ∀ (s : State) (level : Bool) (n : Nat), s.cfg.legal = true → s.inp.rst = false →
    waitOf s.cfg s.st = some (level, n) → s.inp.pinIn ≠ level → n - 1 ≤ s.cnt →
    ∃ w : StatusWord, w.toNat = 4 * s.st.toNat + 2 ∧
      exec (decodeState s.st) s = .next { s with status := w, cnt := 0, st := 0#4 } ∧
      pinOe s = false ∧
      ∃ t, step s = .next t ∧ t.status = w ∧ t.cnt = 0 ∧ busy t = false ∧ pinOe t = false ∧ pinPull t = pinPull s ∧
        t.bitbuf = s.bitbuf ∧ t.idx = s.idx ∧ t.frame = s.frame ∧ t.hum = s.hum ∧ t.temp = s.temp ∧
        (Inv s → t.frame = Vector.replicate 5 0x00#8)

/-- R202, R204: CHECKSUM is recorded by VALIDATE alone, and by it exactly on a mismatch, which writes `status` and nothing
else beside `st <- IDLE`. -/
def Obligations.ChecksumMismatchIsRaisedByValidateOnly : Prop :=
  (∀ s : State, (s.frame[0].toNat + s.frame[1].toNat + s.frame[2].toNat + s.frame[3].toNat) % 256 ≠ s.frame[4].toNat →
    exec .validate s = .next { s with status := 0x03#6, st := 0#4 }) ∧
  (∀ s t : State, step s = .next t → s.status ≠ 0x03#6 → t.status = 0x03#6 →
    s.st = 10#4 ∧ t.frame = s.frame ∧ t.hum = s.hum ∧ t.temp = s.temp ∧
    (s.frame[0].toNat + s.frame[1].toNat + s.frame[2].toNat + s.frame[3].toNat) % 256 ≠ s.frame[4].toNat)

/-- R127 (which the spec derives): what a failed initiation leaves. -/
def Obligations.FailedInitiationLeavesNothingAssembled : Prop :=
  ∀ s t : State, Inv s → s.inp.rst = false → s.st ∈ [1#4, 4#4, 5#4] → step s = .next t → t.st = 0#4 →
    t.status.toNat = 4 * s.st.toNat + 2 ∧ t.frame = Vector.replicate 5 0x00#8 ∧ t.bitbuf = Vector.replicate 40 false ∧
    t.idx = 0#6 ∧ t.hum = s.hum ∧ t.temp = s.temp ∧ pinOe t = false ∧ t.pull = s.pull ∧ (s.st ≠ 1#4 → t.pull = true)

/-- R144 (which the spec derives): what a failed sampling leaves. -/
def Obligations.FailedSamplingLeavesPartialBufferOnly : Prop :=
  ∀ s t : State, Inv s → s.inp.rst = false → s.st ∈ [6#4, 8#4] → step s = .next t → t.st = 0#4 →
    t.status.toNat = 4 * s.st.toNat + 2 ∧ t.idx = s.idx ∧ t.bitbuf = s.bitbuf ∧ t.frame = Vector.replicate 5 0x00#8 ∧
    t.hum = s.hum ∧ t.temp = s.temp ∧
    ∀ j : Fin 40, s.idx.toNat < j.val ∨ (s.idx.toNat = j.val ∧ s.st = 6#4) → t.bitbuf[j] = false

/-- R94: every step keeps `status` among its eight values. -/
def Obligations.StatusKeepsToItsEightValues : Prop :=
  ∀ s t : State, s.status ∈ [0x00#6, 0x01#6, 0x03#6, 0x06#6, 0x12#6, 0x16#6, 0x1A#6, 0x22#6] → step s = .next t →
    t.status ∈ [0x00#6, 0x01#6, 0x03#6, 0x06#6, 0x12#6, 0x16#6, 0x1A#6, 0x22#6] ∧
    ((t.status.extractLsb' 2 4 ≠ 0#4) ↔ t.status.extractLsb' 0 2 = 2#2)

/-! ## The frame -/

/-- R64: `frame_o`, byte by byte, and after ASSEMBLE bit by bit of the buffer. -/
def Obligations.FrameOutputIsTheBitsInOrderReceived : Prop :=
  (∀ s : State, (frameO s).extractLsb' 32 8 = s.frame[0] ∧ (frameO s).extractLsb' 24 8 = s.frame[1] ∧
    (frameO s).extractLsb' 16 8 = s.frame[2] ∧ (frameO s).extractLsb' 8 8 = s.frame[3] ∧
    (frameO s).extractLsb' 0 8 = s.frame[4]) ∧
  (∀ s t : State, exec .assemble s = .next t → ∀ k : Fin 40, (frameO t).getLsbD (39 - k.val) = s.bitbuf[k])

/-- R161 (which the spec derives): each frame is the packing of exactly one buffer. -/
def Obligations.PackingIsABijection : Prop :=
  ∀ (s : State) (f : Vector Byte 5), ∃ b : Vector Bool 40,
    (∃ t, exec .assemble { s with bitbuf := b } = .next t ∧ t.frame = f) ∧
    ∀ (b' : Vector Bool 40) (t : State), exec .assemble { s with bitbuf := b' } = .next t → t.frame = f → b' = b

/-! ## Runs -/

/-- R40's consequences (which the spec derives): with the line off the target level for N ticks, the wait state stays for
exactly N ticks, counting them, and then times out with nothing but `status`, `cnt` and `st` changed. -/
def Obligations.WaitTimesOutAfterExactlyItsBound : Prop :=
  ∀ (s : State) (level : Bool) (n : Nat), s.cfg.legal = true → waitOf s.cfg s.st = some (level, n) → s.cnt = 0 →
    InputsAlong s n (fun _ i => i.rst = false ∧ i.pinIn ≠ level) →
    (∀ k, k < n → ∃ t, runTicks k s = .next t ∧ t.st = s.st ∧ t.cnt = k) ∧
    ∃ t, runTicks n s = .next t ∧ t.st = 0#4 ∧ t.cnt = 0 ∧ t.status.toNat = 4 * s.st.toNat + 2 ∧ t.idx = s.idx ∧
      t.bitbuf = s.bitbuf ∧ t.frame = s.frame ∧ t.hum = s.hum ∧ t.temp = s.temp ∧ t.pull = s.pull

/-- R40's consequences, R207: the first of at most N samples that equals the target level ends the wait, the N-th included. -/
def Obligations.WaitSucceedsOnTheFirstMatchingSample : Prop :=
  ∀ (s : State) (level : Bool) (n m : Nat), s.cfg.legal = true → waitOf s.cfg s.st = some (level, n) → s.cnt = 0 →
    m < n → InputsAlong s (m + 1) (fun k i => i.rst = false ∧ (i.pinIn = level ↔ k = m)) →
    ∃ t, runTicks (m + 1) s = .next t ∧ t.cnt = 0 ∧
      t.st = (if s.st = 1#4 then 2#4 else if s.st = 4#4 then 5#4 else if s.st = 5#4 then 6#4 else
        if s.st = 6#4 then 7#4 else if 39 ≤ s.idx.toNat then 9#4 else 6#4) ∧
      t.idx = (if s.st = 8#4 ∧ s.idx.toNat < 39 then s.idx + 1#6 else s.idx) ∧
      t.bitbuf = s.bitbuf ∧ t.frame = s.frame ∧ t.hum = s.hum ∧ t.temp = s.temp ∧ t.status = s.status ∧ t.pull = s.pull

/-- R41, R128: once in DRIVE_LOW the block drives low for exactly HOLD_LOW ticks, then high with the pull-up for exactly
RELEASE ticks, then stops driving, whatever `start` and the line do. -/
def Obligations.HostPulseHasItsExactShape : Prop :=
  ∀ s : State, s.cfg.legal = true → s.st = 2#4 → s.cnt = 0 →
    InputsAlong s (s.cfg.holdLow + s.cfg.release) (fun _ i => i.rst = false) →
    (∀ k, k < s.cfg.holdLow → ∃ t, runTicks k s = .next t ∧ pinOe t = true ∧ pinOut t = false ∧ pinPull t = s.pull) ∧
    (∀ k, s.cfg.holdLow ≤ k → k < s.cfg.holdLow + s.cfg.release →
      ∃ t, runTicks k s = .next t ∧ pinOe t = true ∧ pinOut t = true ∧ pinPull t = true) ∧
    ∃ t, runTicks (s.cfg.holdLow + s.cfg.release) s = .next t ∧ t.st = 4#4 ∧ t.cnt = 0 ∧ pinOe t = false ∧ pinPull t = true

/-- R98's first point (which the spec derives): the bit recorded is `pin_in` SETTLE ticks after the tick at which BIT_START
saw the line low; the levels in between do not matter. -/
def Obligations.BitIsTheLevelSettleTicksAfterItsStart : Prop :=
  ∀ s u : State, s.cfg.legal = true → s.st = 6#4 → s.idx.toNat ≤ 39 → s.inp.pinIn = false →
    InputsAlong s (s.cfg.settle + 1) (fun _ i => i.rst = false) → runTicks s.cfg.settle s = .next u →
    ∃ t, runTicks (s.cfg.settle + 1) s = .next t ∧ t.st = 8#4 ∧ t.cnt = 0 ∧ t.idx = s.idx ∧
      (∀ j : Fin 40, t.bitbuf[j] = if s.idx.toNat = j.val then u.inp.pinIn else s.bitbuf[j]) ∧
      t.frame = s.frame ∧ t.hum = s.hum ∧ t.temp = s.temp ∧ t.status = s.status

/-! ## Headline results -/

/-- R43 (which the spec derives): the invariant holds at reset. -/
def Obligations.InvariantHoldsAtReset : Prop := Inv State.reset

/-- R43: every step keeps the invariant. -/
def Obligations.EveryStepKeepsTheInvariant : Prop :=
  ∀ s t : State, Inv s → step s = .next t → Inv t

/-- R43 item 8, R245: from any state that is not IDLE, whatever the inputs are, the block is in IDLE within the sum of the
bounds, which is 27082 ticks with the default parameters. -/
def Obligations.EveryTransactionEndsWithinTheBound : Prop :=
  (∀ s : State, s.cfg.legal = true → s.st ≠ 0#4 →
    ∃ k t, k ≤ s.cfg.tIdle + s.cfg.holdLow + s.cfg.release + 2 * s.cfg.tAck +
        40 * (s.cfg.tBitStart + s.cfg.settle + s.cfg.tBitEnd) + 2 ∧ runTicks k s = .next t ∧ t.st = 0#4) ∧
  ∀ s : State, s.cfg = Config.default → s.st ≠ 0#4 → ∃ k t, k ≤ 27082 ∧ runTicks k s = .next t ∧ t.st = 0#4

/-- R245, the least length of a transaction that reaches a result: from an IDLE tick on, however the host and the line
behave short of a reset, no OK and no CHECKSUM is recorded and the cached reading does not change within fewer than 21716 ticks. -/
def Obligations.NoResultBeforeTheLeastLength : Prop :=
  ∀ (s t : State) (k : Nat), s.cfg = Config.default → s.st = 0#4 → k < 21716 →
    InputsAlong s k (fun _ i => i.rst = false) → runTicks k s = .next t →
    t.hum = s.hum ∧ t.temp = s.temp ∧ (t.status = s.status ∨ t.status ∈ [0x06#6, 0x12#6, 0x16#6, 0x1A#6, 0x22#6])

/-- R245's table, every row of it: with the default parameters, how many ticks lie between the acceptance tick and the
first IDLE tick after it, by the outcome that `status` then records; `idx` holds the bit at which a sampler timeout happened. -/
def Obligations.TransactionLengthsAreAsTabulated : Prop :=
  ∀ (s t : State) (len : Nat), s.cfg = Config.default → s.st = 0#4 → s.inp.start = true → 0 < len →
    InputsAlong s len (fun _ i => i.rst = false) →
    (∀ k, 0 < k → k < len → ∃ u, runTicks k s = .next u ∧ busy u = true) →
    runTicks len s = .next t → busy t = false →
    let k := t.idx.toNat
    ((t.status = 0x01#6 ∨ t.status = 0x03#6) ∧ 21716 ≤ len ∧ len ≤ 27083) ∨
    (t.status = 0x06#6 ∧ len = 251) ∨
    (t.status = 0x12#6 ∧ 20132 ≤ len ∧ len ≤ 20381) ∨
    (t.status = 0x16#6 ∧ 20133 ≤ len ∧ len ≤ 20481) ∨
    (t.status = 0x1A#6 ∧ k ≤ 39 ∧ 20109 + 42 * k ≤ len ∧ len ≤ 20556 + 165 * k) ∨
    (t.status = 0x22#6 ∧ k ≤ 39 ∧ 20125 + 42 * k ≤ len ∧ len ≤ 20646 + 165 * k)

/-- R102, R98, R160, R170 together: the stimulus TXN(a,b,c,d,e), played from any IDLE state with the default parameters, is
received as exactly those five bytes and committed exactly if the checksum matches; `busy` is 1 for the whole transaction. -/
def Obligations.TransactionReceivesTheBytesSent : Prop :=
  ∀ (s : State) (a b c d e : Byte), s.cfg = Config.default → s.st = 0#4 →
    let s0 := loadTicks s (txnTicks a b c d e)
    let n := if e[0] = true then 23356 else 23365
    let ok := (a.toNat + b.toNat + c.toNat + d.toNat) % 256 = e.toNat
    (∀ k, 0 < k → k < n → ∃ t, runTicks k s0 = .next t ∧ busy t = true) ∧
    ∃ t, runTicks n s0 = .next t ∧ busy t = false ∧ t.frame = #v[a, b, c, d, e] ∧ t.pull = true ∧ t.idx = 39#6 ∧
      t.hum = (if ok then a else s.hum) ∧ t.temp = (if ok then c else s.temp) ∧ t.status = (if ok then 0x01#6 else 0x03#6)

/-! ## The host driver -/

/-- R181: the Rate Limiter lets a call through iff there is no timestamp or at least MIN_PERIOD_S has elapsed; the default is 3. -/
def Obligations.RateLimiterProceedsIffPeriodElapsed : Prop :=
  (∀ (elapsed : Timestamp → Timestamp → Seconds) (period : Seconds) (last : Option Timestamp) (now : Timestamp),
    mayProceed elapsed period last now = true ↔ last = none ∨ ∃ t0, last = some t0 ∧ elapsed t0 now ≥ period) ∧
  Config.default.minPeriodS = 3

/-- R182, R183, R185, R186: a call that is let through writes the timestamp before the transaction and raises `start` at a
tick with `busy` = 0; a throttled call writes no timestamp, raises nothing and returns the cached value. When in ticks
the driver acts is the model's choice (log 5), and so is that a call let through while `busy` is 1, against R184's
precondition, waits for `busy` = 0 (log 15). -/
def Obligations.CallIsLetThroughOrAnsweredFromTheCache : Prop :=
  ∀ (elapsed : Timestamp → Timestamp → Seconds) (period : Seconds) (now : Timestamp) (blockBusy : Bool) (hum temp : Byte)
    (op : DriverOp) (d : Driver), d.phase = .ready →
    let act := driverAct elapsed period now blockBusy hum temp (some op) d
    act.driver.clockReads = d.clockReads + 1 ∧ act.driver.calls = d.calls.tail ∧
    (mayProceed elapsed period d.lastTs now = true →
      act.driver.lastTs = some now ∧ act.driver.reply = d.reply ∧ act.start = !blockBusy ∧
      act.driver.phase = if blockBusy = true then .starting op else .waiting op) ∧
    (mayProceed elapsed period d.lastTs now = false →
      act.driver.lastTs = d.lastTs ∧ act.start = false ∧ act.driver.phase = .ready ∧
      act.driver.reply = some (match op with
        | .update => .done
        | .readHumidity => .humidity hum
        | .readTemperature => .temperature temp))

/-- R183: the timestamp is written only when the limiter lets a call through, with the clock reading of that call. -/
def Obligations.TimestampIsWrittenOnlyByAnAttempt : Prop :=
  ∀ (elapsed : Timestamp → Timestamp → Seconds) (period : Seconds) (now : Timestamp) (blockBusy : Bool) (hum temp : Byte)
    (call : Option DriverOp) (d : Driver),
    let act := driverAct elapsed period now blockBusy hum temp call d
    act.driver.lastTs ≠ d.lastTs →
      d.phase = .ready ∧ call ≠ none ∧ mayProceed elapsed period d.lastTs now = true ∧ act.driver.lastTs = some now

/-- R184, R231: where the host driver is the host, `rst` is never raised and `start` only in a tick with `busy` = 0, by a
call that then waits for the end of its transaction. -/
def Obligations.DriverRaisesStartOnlyInIdle : Prop :=
  ∀ s t : State, s.host = .driver → step s = .next t →
    t.inp.rst = false ∧ t.host = .driver ∧
    (t.inp.start = true → busy t = false ∧ ∃ op, t.driver.phase = .waiting op ∧ s.driver.phase ≠ .waiting op)

/-- R189 (i) and (ii): a call within the minimum period leaves the block at rest and returns the cached value, in
one tick (the model's choice, log 5). -/
def Obligations.ThrottledCallCausesNoPinActivity : Prop :=
  ∀ (s : State) (op : DriverOp) (rest : List DriverOp) (t0 : Timestamp), s.cfg.legal = true → s.host = .driver →
    s.st = 0#4 → s.inp.rst = false → s.inp.start = false → s.driver.phase = .ready → s.driver.calls = op :: rest →
    s.driver.lastTs = some t0 → Config.elapsedSeconds t0 (Config.now s.driver.clockReads) < s.cfg.minPeriodS →
    ∃ t, step s = .next t ∧ t.st = 0#4 ∧ t.inp.start = false ∧ t.inp.rst = false ∧ pinOe t = false ∧ t.pull = s.pull ∧
      t.cnt = s.cnt ∧ t.idx = s.idx ∧ t.bitbuf = s.bitbuf ∧
      t.hum = s.hum ∧ t.temp = s.temp ∧ t.status = s.status ∧ t.frame = s.frame ∧ t.driver.lastTs = some t0 ∧
      t.driver.phase = .ready ∧ t.driver.calls = rest ∧
      t.driver.reply = some (match op with
        | .update => .done
        | .readHumidity => .humidity s.hum
        | .readTemperature => .temperature s.temp)

/-- R184, R185, R186, R43 item 8: a call that has raised `start` returns, at a tick at which the block is in IDLE, with
the block's cached values of that tick, within the bound of a transaction. When in ticks the driver looks is the model's choice (log 5). -/
def Obligations.CallReturnsWithinTheBound : Prop :=
  ∀ (s : State) (op : DriverOp), s.cfg.legal = true → s.host = .driver → s.driver.phase = .waiting op →
    ∃ k t, 0 < k ∧ k ≤ longestRun s.cfg + 1 ∧ runTicks k s = .next t ∧ t.st = 0#4 ∧ t.driver.phase = .ready ∧
      t.driver.lastTs = s.driver.lastTs ∧
      t.driver.reply = some (match op with
        | .update => .done
        | .readHumidity => .humidity t.hum
        | .readTemperature => .temperature t.temp)
end

