-- ==== Sys2Proof/Laws/Config.lean ====
section
/-!
SUPPORT. The counter's width and the legal configurations (spec/00_scope.md R7, R8).
-/

namespace Sys2Proof

/-- CNT_W bits hold the largest parameter (R8). -/
theorem Config.largest_lt (c : Config) : c.largest < 2 ^ c.cntWidth := Nat.lt_log2_self

/-- No narrower width holds it (R8: "the least width"). -/
theorem Config.cntWidth_least (c : Config) (h : c.largest ≠ 0) (w : Nat) (hw : c.largest < 2 ^ w) : c.cntWidth ≤ w :=
  (Nat.log2_lt h).2 hw

/-- Each tick parameter is at most the largest. -/
theorem Config.le_largest (c : Config) :
    c.tIdle ≤ c.largest ∧ c.holdLow ≤ c.largest ∧ c.release ≤ c.largest ∧ c.tAck ≤ c.largest ∧
      c.tBitStart ≤ c.largest ∧ c.settle ≤ c.largest ∧ c.tBitEnd ≤ c.largest := by
  unfold Config.largest
  omega

/-- The largest parameter is one of the seven, so a width that holds each of them holds it. -/
theorem Config.largest_lt_of (c : Config) {m : Nat}
    (h : c.tIdle < m ∧ c.holdLow < m ∧ c.release < m ∧ c.tAck < m ∧ c.tBitStart < m ∧ c.settle < m ∧ c.tBitEnd < m) :
    c.largest < m := by
  unfold Config.largest
  omega

/-- A configuration is legal iff no tick parameter is 0 and the minimum period is not negative (R7, R8). -/
theorem Config.legal_iff (c : Config) :
    c.legal = true ↔ 1 ≤ c.tIdle ∧ 1 ≤ c.holdLow ∧ 1 ≤ c.release ∧ 1 ≤ c.tAck ∧ 1 ≤ c.tBitStart ∧ 1 ≤ c.settle ∧
      1 ≤ c.tBitEnd ∧ 0 ≤ c.minPeriodS := by
  have hw := c.largest_lt
  obtain ⟨h1, h2, h3, h4, h5, h6, h7⟩ := c.le_largest
  simp only [Config.legal, legalTicks, Bool.and_eq_true, decide_eq_true_eq]
  constructor
  · tauto
  · rintro ⟨g1, g2, g3, g4, g5, g6, g7, g8⟩
    exact ⟨⟨⟨⟨⟨⟨⟨⟨g1, by omega⟩, g2, by omega⟩, g3, by omega⟩, g4, by omega⟩, g5, by omega⟩, g6, by omega⟩, g7, by omega⟩, g8⟩

end Sys2Proof
end

