-- ==== Sys2Proof/Laws/State.lean ====
section
/-!
SUPPORT. What each register update leaves in each field of State, one lemma per field, so that no later proof unfolds a
record update.
-/

namespace Sys2Proof.Machine

variable (s : State)

/-! goTo -/

@[simp] theorem goTo_st (code : StateCode) : (goTo code s).st = code := rfl
@[simp] theorem goTo_cnt (code : StateCode) : (goTo code s).cnt = s.cnt := rfl
@[simp] theorem goTo_idx (code : StateCode) : (goTo code s).idx = s.idx := rfl
@[simp] theorem goTo_bitbuf (code : StateCode) : (goTo code s).bitbuf = s.bitbuf := rfl
@[simp] theorem goTo_frame (code : StateCode) : (goTo code s).frame = s.frame := rfl
@[simp] theorem goTo_hum (code : StateCode) : (goTo code s).hum = s.hum := rfl
@[simp] theorem goTo_temp (code : StateCode) : (goTo code s).temp = s.temp := rfl
@[simp] theorem goTo_status (code : StateCode) : (goTo code s).status = s.status := rfl
@[simp] theorem goTo_pull (code : StateCode) : (goTo code s).pull = s.pull := rfl
@[simp] theorem goTo_inp (code : StateCode) : (goTo code s).inp = s.inp := rfl
@[simp] theorem goTo_cfg (code : StateCode) : (goTo code s).cfg = s.cfg := rfl
@[simp] theorem goTo_pending (code : StateCode) : (goTo code s).pending = s.pending := rfl
@[simp] theorem goTo_tail (code : StateCode) : (goTo code s).tail = s.tail := rfl
@[simp] theorem goTo_host (code : StateCode) : (goTo code s).host = s.host := rfl
@[simp] theorem goTo_tick (code : StateCode) : (goTo code s).tick = s.tick := rfl
@[simp] theorem goTo_driver (code : StateCode) : (goTo code s).driver = s.driver := rfl

/-! raiseTimeout -/

@[simp] theorem raiseTimeout_st (code : StateCode) : (raiseTimeout code s).st = stIdle := rfl
@[simp] theorem raiseTimeout_cnt (code : StateCode) : (raiseTimeout code s).cnt = 0 := rfl
@[simp] theorem raiseTimeout_idx (code : StateCode) : (raiseTimeout code s).idx = s.idx := rfl
@[simp] theorem raiseTimeout_bitbuf (code : StateCode) : (raiseTimeout code s).bitbuf = s.bitbuf := rfl
@[simp] theorem raiseTimeout_frame (code : StateCode) : (raiseTimeout code s).frame = s.frame := rfl
@[simp] theorem raiseTimeout_hum (code : StateCode) : (raiseTimeout code s).hum = s.hum := rfl
@[simp] theorem raiseTimeout_temp (code : StateCode) : (raiseTimeout code s).temp = s.temp := rfl
@[simp] theorem raiseTimeout_status (code : StateCode) : (raiseTimeout code s).status = statusWord code codeTimeout := rfl
@[simp] theorem raiseTimeout_pull (code : StateCode) : (raiseTimeout code s).pull = s.pull := rfl
@[simp] theorem raiseTimeout_inp (code : StateCode) : (raiseTimeout code s).inp = s.inp := rfl
@[simp] theorem raiseTimeout_cfg (code : StateCode) : (raiseTimeout code s).cfg = s.cfg := rfl
@[simp] theorem raiseTimeout_pending (code : StateCode) : (raiseTimeout code s).pending = s.pending := rfl
@[simp] theorem raiseTimeout_tail (code : StateCode) : (raiseTimeout code s).tail = s.tail := rfl
@[simp] theorem raiseTimeout_host (code : StateCode) : (raiseTimeout code s).host = s.host := rfl
@[simp] theorem raiseTimeout_tick (code : StateCode) : (raiseTimeout code s).tick = s.tick := rfl
@[simp] theorem raiseTimeout_driver (code : StateCode) : (raiseTimeout code s).driver = s.driver := rfl

/-! raiseChecksumMismatch -/

@[simp] theorem raiseChecksumMismatch_st : (raiseChecksumMismatch s).st = s.st := rfl
@[simp] theorem raiseChecksumMismatch_cnt : (raiseChecksumMismatch s).cnt = s.cnt := rfl
@[simp] theorem raiseChecksumMismatch_idx : (raiseChecksumMismatch s).idx = s.idx := rfl
@[simp] theorem raiseChecksumMismatch_bitbuf : (raiseChecksumMismatch s).bitbuf = s.bitbuf := rfl
@[simp] theorem raiseChecksumMismatch_frame : (raiseChecksumMismatch s).frame = s.frame := rfl
@[simp] theorem raiseChecksumMismatch_hum : (raiseChecksumMismatch s).hum = s.hum := rfl
@[simp] theorem raiseChecksumMismatch_temp : (raiseChecksumMismatch s).temp = s.temp := rfl
@[simp] theorem raiseChecksumMismatch_status : (raiseChecksumMismatch s).status = statusWord 0#4 codeChecksum := rfl
@[simp] theorem raiseChecksumMismatch_pull : (raiseChecksumMismatch s).pull = s.pull := rfl
@[simp] theorem raiseChecksumMismatch_inp : (raiseChecksumMismatch s).inp = s.inp := rfl
@[simp] theorem raiseChecksumMismatch_cfg : (raiseChecksumMismatch s).cfg = s.cfg := rfl
@[simp] theorem raiseChecksumMismatch_pending : (raiseChecksumMismatch s).pending = s.pending := rfl
@[simp] theorem raiseChecksumMismatch_tail : (raiseChecksumMismatch s).tail = s.tail := rfl
@[simp] theorem raiseChecksumMismatch_host : (raiseChecksumMismatch s).host = s.host := rfl
@[simp] theorem raiseChecksumMismatch_tick : (raiseChecksumMismatch s).tick = s.tick := rfl
@[simp] theorem raiseChecksumMismatch_driver : (raiseChecksumMismatch s).driver = s.driver := rfl

/-! acceptTransaction -/

@[simp] theorem acceptTransaction_st : (acceptTransaction s).st = stWaitIdle := rfl
@[simp] theorem acceptTransaction_cnt : (acceptTransaction s).cnt = 0 := rfl
@[simp] theorem acceptTransaction_idx : (acceptTransaction s).idx = 0#6 := rfl
@[simp] theorem acceptTransaction_bitbuf : (acceptTransaction s).bitbuf = clearedBits := rfl
@[simp] theorem acceptTransaction_frame : (acceptTransaction s).frame = clearedFrame := rfl
@[simp] theorem acceptTransaction_hum : (acceptTransaction s).hum = s.hum := rfl
@[simp] theorem acceptTransaction_temp : (acceptTransaction s).temp = s.temp := rfl
@[simp] theorem acceptTransaction_status : (acceptTransaction s).status = s.status := rfl
@[simp] theorem acceptTransaction_pull : (acceptTransaction s).pull = s.pull := rfl
@[simp] theorem acceptTransaction_inp : (acceptTransaction s).inp = s.inp := rfl
@[simp] theorem acceptTransaction_cfg : (acceptTransaction s).cfg = s.cfg := rfl
@[simp] theorem acceptTransaction_pending : (acceptTransaction s).pending = s.pending := rfl
@[simp] theorem acceptTransaction_tail : (acceptTransaction s).tail = s.tail := rfl
@[simp] theorem acceptTransaction_host : (acceptTransaction s).host = s.host := rfl
@[simp] theorem acceptTransaction_tick : (acceptTransaction s).tick = s.tick := rfl
@[simp] theorem acceptTransaction_driver : (acceptTransaction s).driver = s.driver := rfl

/-! leaveReserved -/

@[simp] theorem leaveReserved_st : (leaveReserved s).st = stIdle := rfl
@[simp] theorem leaveReserved_cnt : (leaveReserved s).cnt = 0 := rfl
@[simp] theorem leaveReserved_idx : (leaveReserved s).idx = s.idx := rfl
@[simp] theorem leaveReserved_bitbuf : (leaveReserved s).bitbuf = s.bitbuf := rfl
@[simp] theorem leaveReserved_frame : (leaveReserved s).frame = s.frame := rfl
@[simp] theorem leaveReserved_hum : (leaveReserved s).hum = s.hum := rfl
@[simp] theorem leaveReserved_temp : (leaveReserved s).temp = s.temp := rfl
@[simp] theorem leaveReserved_status : (leaveReserved s).status = s.status := rfl
@[simp] theorem leaveReserved_pull : (leaveReserved s).pull = s.pull := rfl
@[simp] theorem leaveReserved_inp : (leaveReserved s).inp = s.inp := rfl
@[simp] theorem leaveReserved_cfg : (leaveReserved s).cfg = s.cfg := rfl
@[simp] theorem leaveReserved_pending : (leaveReserved s).pending = s.pending := rfl
@[simp] theorem leaveReserved_tail : (leaveReserved s).tail = s.tail := rfl
@[simp] theorem leaveReserved_host : (leaveReserved s).host = s.host := rfl
@[simp] theorem leaveReserved_tick : (leaveReserved s).tick = s.tick := rfl
@[simp] theorem leaveReserved_driver : (leaveReserved s).driver = s.driver := rfl

/-! resetRegisters -/

@[simp] theorem resetRegisters_st : (resetRegisters s).st = stIdle := rfl
@[simp] theorem resetRegisters_cnt : (resetRegisters s).cnt = 0 := rfl
@[simp] theorem resetRegisters_idx : (resetRegisters s).idx = 0#6 := rfl
@[simp] theorem resetRegisters_bitbuf : (resetRegisters s).bitbuf = clearedBits := rfl
@[simp] theorem resetRegisters_frame : (resetRegisters s).frame = clearedFrame := rfl
@[simp] theorem resetRegisters_hum : (resetRegisters s).hum = 0x00#8 := rfl
@[simp] theorem resetRegisters_temp : (resetRegisters s).temp = 0x00#8 := rfl
@[simp] theorem resetRegisters_status : (resetRegisters s).status = statusWord 0#4 codeNone := rfl
@[simp] theorem resetRegisters_pull : (resetRegisters s).pull = false := rfl
@[simp] theorem resetRegisters_inp : (resetRegisters s).inp = s.inp := rfl
@[simp] theorem resetRegisters_cfg : (resetRegisters s).cfg = s.cfg := rfl
@[simp] theorem resetRegisters_pending : (resetRegisters s).pending = s.pending := rfl
@[simp] theorem resetRegisters_tail : (resetRegisters s).tail = s.tail := rfl
@[simp] theorem resetRegisters_host : (resetRegisters s).host = s.host := rfl
@[simp] theorem resetRegisters_tick : (resetRegisters s).tick = s.tick := rfl
@[simp] theorem resetRegisters_driver : (resetRegisters s).driver = s.driver := rfl

/-! commitReading -/

@[simp] theorem commitReading_st : (commitReading s).st = s.st := rfl
@[simp] theorem commitReading_cnt : (commitReading s).cnt = s.cnt := rfl
@[simp] theorem commitReading_idx : (commitReading s).idx = s.idx := rfl
@[simp] theorem commitReading_bitbuf : (commitReading s).bitbuf = s.bitbuf := rfl
@[simp] theorem commitReading_frame : (commitReading s).frame = s.frame := rfl
@[simp] theorem commitReading_hum : (commitReading s).hum = s.frame[0] := rfl
@[simp] theorem commitReading_temp : (commitReading s).temp = s.frame[2] := rfl
@[simp] theorem commitReading_status : (commitReading s).status = statusWord 0#4 codeOk := rfl
@[simp] theorem commitReading_pull : (commitReading s).pull = s.pull := rfl
@[simp] theorem commitReading_inp : (commitReading s).inp = s.inp := rfl
@[simp] theorem commitReading_cfg : (commitReading s).cfg = s.cfg := rfl
@[simp] theorem commitReading_pending : (commitReading s).pending = s.pending := rfl
@[simp] theorem commitReading_tail : (commitReading s).tail = s.tail := rfl
@[simp] theorem commitReading_host : (commitReading s).host = s.host := rfl
@[simp] theorem commitReading_tick : (commitReading s).tick = s.tick := rfl
@[simp] theorem commitReading_driver : (commitReading s).driver = s.driver := rfl

/-! nextTick: the registers and the configuration are those the tick left -/

@[simp] theorem nextTick_st : (nextTick s).st = s.st := by unfold nextTick; cases s.host <;> rfl
@[simp] theorem nextTick_cnt : (nextTick s).cnt = s.cnt := by unfold nextTick; cases s.host <;> rfl
@[simp] theorem nextTick_idx : (nextTick s).idx = s.idx := by unfold nextTick; cases s.host <;> rfl
@[simp] theorem nextTick_bitbuf : (nextTick s).bitbuf = s.bitbuf := by unfold nextTick; cases s.host <;> rfl
@[simp] theorem nextTick_frame : (nextTick s).frame = s.frame := by unfold nextTick; cases s.host <;> rfl
@[simp] theorem nextTick_hum : (nextTick s).hum = s.hum := by unfold nextTick; cases s.host <;> rfl
@[simp] theorem nextTick_temp : (nextTick s).temp = s.temp := by unfold nextTick; cases s.host <;> rfl
@[simp] theorem nextTick_status : (nextTick s).status = s.status := by unfold nextTick; cases s.host <;> rfl
@[simp] theorem nextTick_pull : (nextTick s).pull = s.pull := by unfold nextTick; cases s.host <;> rfl
@[simp] theorem nextTick_cfg : (nextTick s).cfg = s.cfg := by unfold nextTick; cases s.host <;> rfl
@[simp] theorem nextTick_tail : (nextTick s).tail = s.tail := by unfold nextTick; cases s.host <;> rfl
@[simp] theorem nextTick_host : (nextTick s).host = s.host := by unfold nextTick; cases s.host <;> rfl
@[simp] theorem nextTick_pending : (nextTick s).pending = s.pending.tail := by unfold nextTick; cases s.host <;> rfl
@[simp] theorem nextTick_tick : (nextTick s).tick = s.tick + 1 := by unfold nextTick; cases s.host <;> rfl
@[simp] theorem nextTick_pinIn : (nextTick s).inp.pinIn = (rawInputs s).pinIn := by unfold nextTick; cases s.host <;> rfl

/-! memWriteBit and nextBit write one field each beside `st` -/

@[simp] theorem memWriteBit_st (i : BitIndex) (v : Bool) : (memWriteBit i v s).st = s.st := by unfold memWriteBit; split <;> rfl
@[simp] theorem memWriteBit_cnt (i : BitIndex) (v : Bool) : (memWriteBit i v s).cnt = s.cnt := by unfold memWriteBit; split <;> rfl
@[simp] theorem memWriteBit_idx (i : BitIndex) (v : Bool) : (memWriteBit i v s).idx = s.idx := by unfold memWriteBit; split <;> rfl
@[simp] theorem memWriteBit_frame (i : BitIndex) (v : Bool) : (memWriteBit i v s).frame = s.frame := by unfold memWriteBit; split <;> rfl
@[simp] theorem memWriteBit_hum (i : BitIndex) (v : Bool) : (memWriteBit i v s).hum = s.hum := by unfold memWriteBit; split <;> rfl
@[simp] theorem memWriteBit_temp (i : BitIndex) (v : Bool) : (memWriteBit i v s).temp = s.temp := by unfold memWriteBit; split <;> rfl
@[simp] theorem memWriteBit_status (i : BitIndex) (v : Bool) : (memWriteBit i v s).status = s.status := by unfold memWriteBit; split <;> rfl
@[simp] theorem memWriteBit_pull (i : BitIndex) (v : Bool) : (memWriteBit i v s).pull = s.pull := by unfold memWriteBit; split <;> rfl
@[simp] theorem memWriteBit_inp (i : BitIndex) (v : Bool) : (memWriteBit i v s).inp = s.inp := by unfold memWriteBit; split <;> rfl
@[simp] theorem memWriteBit_cfg (i : BitIndex) (v : Bool) : (memWriteBit i v s).cfg = s.cfg := by unfold memWriteBit; split <;> rfl
@[simp] theorem memWriteBit_pending (i : BitIndex) (v : Bool) : (memWriteBit i v s).pending = s.pending := by unfold memWriteBit; split <;> rfl
@[simp] theorem memWriteBit_tail (i : BitIndex) (v : Bool) : (memWriteBit i v s).tail = s.tail := by unfold memWriteBit; split <;> rfl
@[simp] theorem memWriteBit_host (i : BitIndex) (v : Bool) : (memWriteBit i v s).host = s.host := by unfold memWriteBit; split <;> rfl
@[simp] theorem memWriteBit_tick (i : BitIndex) (v : Bool) : (memWriteBit i v s).tick = s.tick := by unfold memWriteBit; split <;> rfl
@[simp] theorem memWriteBit_driver (i : BitIndex) (v : Bool) : (memWriteBit i v s).driver = s.driver := by unfold memWriteBit; split <;> rfl
@[simp] theorem nextBit_cnt : (nextBit s).cnt = s.cnt := by unfold nextBit; split <;> rfl
@[simp] theorem nextBit_bitbuf : (nextBit s).bitbuf = s.bitbuf := by unfold nextBit; split <;> rfl
@[simp] theorem nextBit_frame : (nextBit s).frame = s.frame := by unfold nextBit; split <;> rfl
@[simp] theorem nextBit_hum : (nextBit s).hum = s.hum := by unfold nextBit; split <;> rfl
@[simp] theorem nextBit_temp : (nextBit s).temp = s.temp := by unfold nextBit; split <;> rfl
@[simp] theorem nextBit_status : (nextBit s).status = s.status := by unfold nextBit; split <;> rfl
@[simp] theorem nextBit_pull : (nextBit s).pull = s.pull := by unfold nextBit; split <;> rfl
@[simp] theorem nextBit_inp : (nextBit s).inp = s.inp := by unfold nextBit; split <;> rfl
@[simp] theorem nextBit_cfg : (nextBit s).cfg = s.cfg := by unfold nextBit; split <;> rfl
@[simp] theorem nextBit_pending : (nextBit s).pending = s.pending := by unfold nextBit; split <;> rfl
@[simp] theorem nextBit_tail : (nextBit s).tail = s.tail := by unfold nextBit; split <;> rfl
@[simp] theorem nextBit_host : (nextBit s).host = s.host := by unfold nextBit; split <;> rfl
@[simp] theorem nextBit_tick : (nextBit s).tick = s.tick := by unfold nextBit; split <;> rfl
@[simp] theorem nextBit_driver : (nextBit s).driver = s.driver := by unfold nextBit; split <;> rfl

end Sys2Proof.Machine
end

