-- ==== Sys2Proof/Laws/Ops.lean ====
section
/-!
SUPPORT. One lemma per shared operation that says once what it can do, for proofs to cite instead of unfolding it.
-/

namespace Sys2Proof.Machine

/-- The counter's increment keeps to the counter's width. -/
theorem countUp_lt (c : Config) (x : Nat) : countUp c x < 2 ^ c.cntWidth :=
  Nat.mod_lt _ (Nat.two_pow_pos _)

/-- The counter's increment does not wrap below a bound that is at most the largest parameter (R44: "never wraps"). -/
theorem countUp_eq {c : Config} {n : Nat} (hn : n ≤ c.largest) {x : Nat} (h : x < n - 1) : countUp c x = x + 1 :=
  Nat.mod_eq_of_lt (by have := c.largest_lt; omega)

/-- A bounded wait whose bound is one of the parameters does one of three things (R40, R207). -/
theorem waitLevel_cases (level : Level) (bound : Nat) (self : StateCode) (next : State → State) (s : State)
    (hb : bound ≤ s.cfg.largest) :
    (s.inp.pinIn = level ∧ waitLevel level bound self next s = next { s with cnt := 0 }) ∨
    (s.inp.pinIn ≠ level ∧ bound - 1 ≤ s.cnt ∧ waitLevel level bound self next s = raiseTimeout self s) ∨
    (s.inp.pinIn ≠ level ∧ s.cnt < bound - 1 ∧ waitLevel level bound self next s = { s with cnt := s.cnt + 1 }) := by
  by_cases hp : s.inp.pinIn = level
  · exact .inl ⟨hp, if_pos hp⟩
  · by_cases hc : bound - 1 ≤ s.cnt
    · exact .inr (.inl ⟨hp, hc, (if_neg hp).trans (if_pos hc)⟩)
    · have hlt := Nat.lt_of_not_le hc
      refine .inr (.inr ⟨hp, hlt, (if_neg hp).trans ((if_neg hc).trans ?_)⟩)
      rw [countUp_eq hb hlt]

/-- A fixed delay whose length is one of the parameters does one of two things (R41). -/
theorem delayTicks_cases (length : Nat) (next : State → State) (s : State) (hb : length ≤ s.cfg.largest) :
    (length - 1 ≤ s.cnt ∧ delayTicks length next s = next { s with cnt := 0 }) ∨
    (s.cnt < length - 1 ∧ delayTicks length next s = { s with cnt := s.cnt + 1 }) := by
  by_cases hc : length - 1 ≤ s.cnt
  · exact .inl ⟨hc, if_pos hc⟩
  · have hlt := Nat.lt_of_not_le hc
    refine .inr ⟨hlt, (if_neg hc).trans ?_⟩
    rw [countUp_eq hb hlt]

/-- BIT_END's success action goes to ASSEMBLE after the last bit, else to the next bit (R142). -/
theorem nextBit_cases (s : State) :
    (39 ≤ s.idx.toNat ∧ nextBit s = { s with st := stAssemble }) ∨
    (s.idx.toNat < 39 ∧ nextBit s = { s with idx := s.idx + 1#6, st := stBitStart }) := by
  by_cases h : 39 ≤ s.idx.toNat
  · exact .inl ⟨h, if_pos h⟩
  · exact .inr ⟨Nat.lt_of_not_le h, if_neg h⟩

theorem nextBit_st (s : State) : (nextBit s).st = if 39 ≤ s.idx.toNat then stAssemble else stBitStart := by
  unfold nextBit
  split <;> rfl

theorem nextBit_idx (s : State) : (nextBit s).idx = if 39 ≤ s.idx.toNat then s.idx else s.idx + 1#6 := by
  unfold nextBit
  split <;> rfl

/-- BIT_SETTLE's write changes element `idx` and no other (R141). -/
theorem memWriteBit_bitbuf (i : BitIndex) (v : Bool) (s : State) (j : Nat) (hj : j < 40) :
    (memWriteBit i v s).bitbuf[j] = if i.toNat = j then v else s.bitbuf[j] := by
  unfold memWriteBit
  split
  · simp [Vector.getElem_set]
  · rw [if_neg (by omega)]

@[simp] theorem statusCode_statusWord (fail : StateCode) (code : BitVec 2) :
    statusCode (statusWord fail code) = code := by
  revert fail code; decide

@[simp] theorem statusFail_statusWord (fail : StateCode) (code : BitVec 2) :
    statusFail (statusWord fail code) = fail := by
  revert fail code; decide

/-- The status word as a number: `fail` × 4 + `code` (R94). -/
theorem statusWord_toNat : ∀ (fail : StateCode) (code : BitVec 2),
    (statusWord fail code).toNat = 4 * fail.toNat + code.toNat := by
  decide

/-! The eight values of the status word (R94). -/

@[simp] theorem statusWord_none : statusWord 0#4 0#2 = 0x00#6 := rfl
@[simp] theorem statusWord_ok : statusWord 0#4 1#2 = 0x01#6 := rfl
@[simp] theorem statusWord_checksum : statusWord 0#4 3#2 = 0x03#6 := rfl
@[simp] theorem statusWord_timeoutWaitIdle : statusWord 1#4 2#2 = 0x06#6 := rfl
@[simp] theorem statusWord_timeoutAckLow : statusWord 4#4 2#2 = 0x12#6 := rfl
@[simp] theorem statusWord_timeoutAckHigh : statusWord 5#4 2#2 = 0x16#6 := rfl
@[simp] theorem statusWord_timeoutBitStart : statusWord 6#4 2#2 = 0x1A#6 := rfl
@[simp] theorem statusWord_timeoutBitEnd : statusWord 8#4 2#2 = 0x22#6 := rfl

/-- The truncated sum in exact numbers (R173). -/
theorem checksum_toNat (f : Vector Byte 5) :
    (checksum f).toNat = (f[0].toNat + f[1].toNat + f[2].toNat + f[3].toNat) % 256 := by
  have h0 := f[0].isLt
  have h1 := f[1].isLt
  have h2 := f[2].isLt
  have h3 := f[3].isLt
  simp [checksum, sum10, BitVec.extractLsb']

/-- The validator's test in exact numbers (R172). -/
theorem frameValid_iff (f : Vector Byte 5) :
    frameValid f = true ↔ (f[0].toNat + f[1].toNat + f[2].toNat + f[3].toNat) % 256 = f[4].toNat := by
  rw [← checksum_toNat, frameValid, beq_iff_eq, BitVec.toNat_inj]

/-- Eight concatenated bits, the first in bit 7 (R11). -/
theorem eightBits : ∀ x0 x1 x2 x3 x4 x5 x6 x7 : Bool,
    let v : Byte := BitVec.ofBool x0 ++ BitVec.ofBool x1 ++ BitVec.ofBool x2 ++ BitVec.ofBool x3 ++
      BitVec.ofBool x4 ++ BitVec.ofBool x5 ++ BitVec.ofBool x6 ++ BitVec.ofBool x7
    v.getLsbD 7 = x0 ∧ v.getLsbD 6 = x1 ∧ v.getLsbD 5 = x2 ∧ v.getLsbD 4 = x3 ∧
      v.getLsbD 3 = x4 ∧ v.getLsbD 2 = x5 ∧ v.getLsbD 1 = x6 ∧ v.getLsbD 0 = x7 := by
  decide

/-- Every bit of a packed byte (R62). -/
theorem packByte_bit (b : Vector Bool 40) (k : Nat) (h : k + 8 ≤ 40) (j : Nat) (hj : j < 8) :
    (packByte b k h).getLsbD (7 - j) = b[k + j] := by
  obtain ⟨h0, h1, h2, h3, h4, h5, h6, h7⟩ :=
    eightBits b[k] b[k + 1] b[k + 2] b[k + 3] b[k + 4] b[k + 5] b[k + 6] b[k + 7]
  unfold packByte
  interval_cases j <;> assumption

/-- Byte `j` of the packed frame is elements `8j` to `8j + 7` (R65). -/
theorem packFrame_byte (b : Vector Bool 40) (j : Nat) (hj : j < 5) :
    (packFrame b)[j] = packByte b (8 * j) (by omega) := by
  unfold packFrame
  interval_cases j <;> rfl

/-- Every bit of `frame_o` is a bit of a byte of the frame (R64). -/
theorem frameNumber_bit (f : Vector Byte 5) (k : Nat) (hk : k < 40) :
    (frameNumber f).getLsbD (39 - k) = f[k / 8].getLsbD (7 - k % 8) := by
  unfold frameNumber
  simp only [BitVec.getLsbD_append]
  interval_cases k <;> simp

@[simp] theorem clearedFrame_get (j : Nat) (h : j < 5) : clearedFrame[j] = 0x00#8 := by
  simp [clearedFrame]

@[simp] theorem clearedBits_get (j : Nat) (h : j < 40) : clearedBits[j] = false := by
  simp [clearedBits]

end Sys2Proof.Machine
end

