-- ==== Sys2Proof/Laws/PerInstr.lean ====
section
/-!
SUPPORT. Statements made per instruction: every row of the opcode table is well-formed, and the decoder reads back the
word the encoder writes.
-/

namespace Sys2Proof.Laws.RoundTrip

/-- The instruction is well-formed and its word decodes to it (spec/30_encoding.md R90, R99). -/
def Statement (i : Instr) : Prop := i.wellFormed = true ∧ decode (encode i) = .ok i

theorem idle : Statement .idle := ⟨rfl, rfl⟩
theorem waitIdle : Statement .waitIdle := ⟨rfl, rfl⟩
theorem driveLow : Statement .driveLow := ⟨rfl, rfl⟩
theorem driveHigh : Statement .driveHigh := ⟨rfl, rfl⟩
theorem ackLow : Statement .ackLow := ⟨rfl, rfl⟩
theorem ackHigh : Statement .ackHigh := ⟨rfl, rfl⟩
theorem bitStart : Statement .bitStart := ⟨rfl, rfl⟩
theorem bitSettle : Statement .bitSettle := ⟨rfl, rfl⟩
theorem bitEnd : Statement .bitEnd := ⟨rfl, rfl⟩
theorem assemble : Statement .assemble := ⟨rfl, rfl⟩
theorem validate : Statement .validate := ⟨rfl, rfl⟩
theorem reserved11 : Statement .reserved11 := ⟨rfl, rfl⟩
theorem reserved12 : Statement .reserved12 := ⟨rfl, rfl⟩
theorem reserved13 : Statement .reserved13 := ⟨rfl, rfl⟩
theorem reserved14 : Statement .reserved14 := ⟨rfl, rfl⟩
theorem reserved15 : Statement .reserved15 := ⟨rfl, rfl⟩
theorem start : Statement .start := ⟨rfl, rfl⟩
theorem rst : Statement .rst := ⟨rfl, rfl⟩

end Sys2Proof.Laws.RoundTrip
end

