-- ==== Sys2Proof/Laws/Step.lean ====
section
/-!
SUPPORT. What one tick does, as a function of the state (the block never faults and never refuses), and what a run of
ticks is. Proofs about `step` cite `step_eq` and split `afterTick`.
-/

namespace Sys2Proof.Machine

/-- The registers a tick leaves, as one function (R42). -/
def afterTick (s : State) : State :=
  if s.inp.rst then resetRegisters s
  else
    match s.st.toNat with
    | 0 => if s.inp.start then acceptTransaction s else s
    | 1 => waitLevel true s.cfg.tIdle stWaitIdle (goTo stDriveLow) s
    | 2 => delayTicks s.cfg.holdLow (fun t => { t with pull := true, st := stDriveHigh }) s
    | 3 => delayTicks s.cfg.release (goTo stAckLow) s
    | 4 => waitLevel false s.cfg.tAck stAckLow (goTo stAckHigh) s
    | 5 => waitLevel true s.cfg.tAck stAckHigh (goTo stBitStart) s
    | 6 => waitLevel false s.cfg.tBitStart stBitStart (goTo stBitSettle) s
    | 7 => delayTicks s.cfg.settle (fun t => goTo stBitEnd (memWriteBit t.idx t.inp.pinIn t)) s
    | 8 => waitLevel true s.cfg.tBitEnd stBitEnd nextBit s
    | 9 => { s with frame := packFrame s.bitbuf, st := stValidate }
    | 10 => goTo stIdle (if frameValid s.frame then commitReading s else raiseChecksumMismatch s)
    | _ => leaveReserved s

/-! One equation per state, for a tick without reset. -/

theorem afterTick_rst {s : State} (hr : s.inp.rst = true) : afterTick s = resetRegisters s := by
  simp [afterTick, hr]

theorem afterTick_idle {s : State} (hr : s.inp.rst = false) (h : s.st = 0#4) :
    afterTick s = if s.inp.start then acceptTransaction s else s := by
  unfold afterTick
  rw [hr, h]
  rfl

theorem afterTick_waitIdle {s : State} (hr : s.inp.rst = false) (h : s.st = 1#4) :
    afterTick s = waitLevel true s.cfg.tIdle stWaitIdle (goTo stDriveLow) s := by
  unfold afterTick
  rw [hr, h]
  rfl

theorem afterTick_driveLow {s : State} (hr : s.inp.rst = false) (h : s.st = 2#4) :
    afterTick s = delayTicks s.cfg.holdLow (fun t => { t with pull := true, st := stDriveHigh }) s := by
  unfold afterTick
  rw [hr, h]
  rfl

theorem afterTick_driveHigh {s : State} (hr : s.inp.rst = false) (h : s.st = 3#4) :
    afterTick s = delayTicks s.cfg.release (goTo stAckLow) s := by
  unfold afterTick
  rw [hr, h]
  rfl

theorem afterTick_ackLow {s : State} (hr : s.inp.rst = false) (h : s.st = 4#4) :
    afterTick s = waitLevel false s.cfg.tAck stAckLow (goTo stAckHigh) s := by
  unfold afterTick
  rw [hr, h]
  rfl

theorem afterTick_ackHigh {s : State} (hr : s.inp.rst = false) (h : s.st = 5#4) :
    afterTick s = waitLevel true s.cfg.tAck stAckHigh (goTo stBitStart) s := by
  unfold afterTick
  rw [hr, h]
  rfl

theorem afterTick_bitStart {s : State} (hr : s.inp.rst = false) (h : s.st = 6#4) :
    afterTick s = waitLevel false s.cfg.tBitStart stBitStart (goTo stBitSettle) s := by
  unfold afterTick
  rw [hr, h]
  rfl

theorem afterTick_bitSettle {s : State} (hr : s.inp.rst = false) (h : s.st = 7#4) :
    afterTick s = delayTicks s.cfg.settle (fun t => goTo stBitEnd (memWriteBit t.idx t.inp.pinIn t)) s := by
  unfold afterTick
  rw [hr, h]
  rfl

theorem afterTick_bitEnd {s : State} (hr : s.inp.rst = false) (h : s.st = 8#4) :
    afterTick s = waitLevel true s.cfg.tBitEnd stBitEnd nextBit s := by
  unfold afterTick
  rw [hr, h]
  rfl

theorem afterTick_assemble {s : State} (hr : s.inp.rst = false) (h : s.st = 9#4) :
    afterTick s = { s with frame := packFrame s.bitbuf, st := stValidate } := by
  unfold afterTick
  rw [hr, h]
  rfl

theorem afterTick_validate {s : State} (hr : s.inp.rst = false) (h : s.st = 10#4) :
    afterTick s = goTo stIdle (if frameValid s.frame then commitReading s else raiseChecksumMismatch s) := by
  unfold afterTick
  rw [hr, h]
  rfl

theorem afterTick_reserved {s : State} (hr : s.inp.rst = false) (h : 11 ≤ s.st.toNat) :
    afterTick s = leaveReserved s := by
  unfold afterTick
  rw [hr]
  have hlt := s.st.isLt
  generalize s.st.toNat = n at h hlt
  interval_cases n <;> rfl

/-- The sixteen state codes. -/
theorem stateCode_cases (c : StateCode) :
    c = 0#4 ∨ c = 1#4 ∨ c = 2#4 ∨ c = 3#4 ∨ c = 4#4 ∨ c = 5#4 ∨ c = 6#4 ∨ c = 7#4 ∨ c = 8#4 ∨ c = 9#4 ∨
      c = 10#4 ∨ 11 ≤ c.toNat := by
  revert c
  decide

@[simp] theorem decodeTick_rst (start : Bool) (c : StateCode) : decodeTick true start c = .rst := by
  cases start <;> rfl

@[simp] theorem decodeTick_start (c : StateCode) : decodeTick false true c = .start := rfl

@[simp] theorem decodeTick_none (c : StateCode) : decodeTick false false c = decodeState c := rfl

/-- The two places that name the state's micro-operation, the decoder and `execState`, agree. -/
theorem exec_decodeState (s : State) : exec (decodeState s.st) s = execState s := by
  have h := s.st.isLt
  unfold decodeState execState
  generalize s.st.toNat = n at h
  interval_cases n <;> rfl

/-- The case of R42 as one function. -/
theorem execState_eq (s : State) (hr : s.inp.rst = false) : execState s = .next (afterTick s) := by
  have h := s.st.isLt
  unfold execState afterTick
  rw [hr]
  generalize s.st.toNat = n at h
  interval_cases n <;> rfl

/-- The instruction of a tick always answers a next state: `afterTick`. -/
theorem exec_fetch (s : State) : exec (fetch s) s = .next (afterTick s) := by
  unfold fetch
  cases hr : s.inp.rst
  · cases hs : s.inp.start
    · rw [decodeTick_none, exec_decodeState, execState_eq s hr]
    · rw [decodeTick_start]
      change execStart s = _
      unfold execStart
      split
      · next h => simp [afterTick, hr, hs, h]
      · exact execState_eq s hr
  · rw [decodeTick_rst]
    simp [afterTick, hr, exec, execRst]

/-- The next tick does not depend on this tick's strobes, and on its level only through the held tail (R101). -/
theorem nextTick_inputs (s : State) (i : Inputs) (h : i.pinIn = s.inp.pinIn) :
    nextTick { s with inp := i } = nextTick s := by
  have hraw : rawInputs { s with inp := i } = rawInputs s := by
    unfold rawInputs
    dsimp only
    rw [h]
  have hdrv : driverStep { s with inp := i } = driverStep s := rfl
  unfold nextTick
  rw [hraw, hdrv]

/-- Every instruction answers a next state on every state (R9, R200). -/
theorem exec_answers (i : Instr) (s : State) : ∃ t, exec i s = .next t := by
  have hs : ∃ t, execState s = .next t := by
    have h := s.st.isLt
    unfold execState
    generalize s.st.toNat = n at h
    interval_cases n <;> exact ⟨_, rfl⟩
  cases i with
  | start =>
    change ∃ t, execStart s = _
    unfold execStart
    split
    · exact ⟨_, rfl⟩
    · exact hs
  | _ => exact ⟨_, rfl⟩

/-- One tick of the machine with legal parameters. -/
theorem step_eq (s : State) (h : s.cfg.legal = true) : step s = .next (nextTick (afterTick s)) := by
  unfold step
  rw [if_pos h, exec_fetch]

/-- One tick with parameters outside R7. -/
theorem step_illegal (s : State) (h : s.cfg.legal = false) : step s = .refused .illegalConfiguration := by
  unfold step
  rw [h]
  rfl

/-- A step that answers a next state answers this one. -/
theorem step_next {s t : State} (h : step s = .next t) : s.cfg.legal = true ∧ t = nextTick (afterTick s) := by
  cases hl : s.cfg.legal
  · rw [step_illegal s hl] at h
    cases h
  · rw [step_eq s hl] at h
    exact ⟨rfl, (Host.Outcome.next.inj h).symm⟩

/-- No tick writes the configuration or the sources of the next inputs; only `nextTick` does. -/
theorem afterTick_environment (s : State) :
    (afterTick s).cfg = s.cfg ∧ (afterTick s).inp = s.inp ∧ (afterTick s).pending = s.pending ∧
      (afterTick s).tail = s.tail ∧ (afterTick s).host = s.host ∧ (afterTick s).tick = s.tick ∧
      (afterTick s).driver = s.driver := by
  unfold afterTick waitLevel delayTicks
  repeat' split
  all_goals simp

@[simp] theorem afterTick_cfg (s : State) : (afterTick s).cfg = s.cfg := (afterTick_environment s).1

/-- Running `k + 1` ticks is running one and then `k`. -/
theorem runTicks_succ (k : Nat) (s : State) (h : s.cfg.legal = true) :
    runTicks (k + 1) s = runTicks k (nextTick (afterTick s)) := by
  rw [runTicks, step_eq s h]

@[simp] theorem runTicks_zero (s : State) : runTicks 0 s = .next s := rfl

/-- With legal parameters a run never stops, and is the iteration of one tick. -/
theorem runTicks_eq (k : Nat) (s : State) (h : s.cfg.legal = true) :
    runTicks k s = .next ((fun u => nextTick (afterTick u))^[k] s) := by
  induction k generalizing s with
  | zero => rfl
  | succ k ih =>
    rw [runTicks_succ k s h, ih _ (by simpa using h)]
    rfl

/-- One more tick of a run of the host's interface, for any machine. -/
theorem coreRun_next (M : Host.Core) (k : Nat) {s t : M.State} (h : M.step s = .next t) :
    Host.Core.run M (k + 1) s = Host.Core.run M k t := by
  rw [Host.Core.run, h]

/-- A run of the host's interface that is refused at its first tick, for any machine. -/
theorem coreRun_refused (M : Host.Core) (k : Nat) {s : M.State} {r : M.Refusal} (h : M.step s = .refused r) :
    Host.Core.run M (k + 1) s = .refused r := by
  rw [Host.Core.run, h]

/-- A run of the host's interface is a run of ticks. -/
theorem coreRun_eq_runTicks (k : Nat) (s : State) : Host.Core.run Sys2Proof.core k s = runTicks k s := by
  induction k generalizing s with
  | zero => rfl
  | succ k ih =>
    cases h : s.cfg.legal
    · rw [runTicks, step_illegal s h]
      exact coreRun_refused Sys2Proof.core k (step_illegal s h)
    · rw [runTicks_succ k s h]
      exact (coreRun_next Sys2Proof.core k (step_eq s h)).trans (ih _)

/-- A run keeps the configuration. -/
theorem runTicks_cfg {k : Nat} {s t : State} (h : s.cfg.legal = true) (hr : runTicks k s = .next t) :
    t.cfg = s.cfg := by
  induction k generalizing s with
  | zero => cases hr; rfl
  | succ k ih =>
    rw [runTicks_succ k s h] at hr
    simpa using ih (by simpa using h) hr

/-- The inputs along a run, read off the iteration of one tick. -/
theorem inputsAlong_of {s : State} {n : Nat} {P : Nat → Inputs → Prop} (h : s.cfg.legal = true)
    (hp : ∀ k, k < n → P k ((fun u => nextTick (afterTick u))^[k] s).inp) : InputsAlong s n P := by
  intro k hk t ht
  rw [runTicks_eq k s h] at ht
  cases ht
  exact hp k hk

/-- Running `j + k` ticks is running `j` and then `k`. -/
theorem runTicks_add {j k : Nat} {s t : State} (h : s.cfg.legal = true) (hj : runTicks j s = .next t) :
    runTicks (j + k) s = runTicks k t := by
  induction j generalizing s with
  | zero => cases hj; rw [Nat.zero_add]
  | succ j ih =>
    rw [runTicks_succ j s h] at hj
    rw [Nat.succ_add_eq_add_succ, Nat.add_succ, runTicks_succ _ s h]
    exact ih (by simpa using h) hj

end Sys2Proof.Machine
end

