-- ==== Sys2Proof/Laws/Stimulus.lean ====
section
/-!
SUPPORT. The lengths of the stimulus statements that have a parameter (spec/30_encoding.md R101), without unfolding
the repetition.
-/

namespace Sys2Proof.Machine

@[simp] theorem rstTicks_length (n : Nat) : (rstTicks n).length = n := List.length_replicate

@[simp] theorem highTicks_length (n : Nat) : (highTicks n).length = n := List.length_replicate

@[simp] theorem lowTicks_length (n : Nat) : (lowTicks n).length = n := List.length_replicate

@[simp] theorem symbolTicks_length (bit : Bool) : (symbolTicks bit).length = 80 := by
  cases bit <;> rfl

/-- The first of `n + 1` high ticks. -/
theorem highTicks_succ (n : Nat) :
    highTicks (n + 1) = { rst := false, start := false, pinIn := true } :: highTicks n := rfl

/-- The first of `n + 1` low ticks. -/
theorem lowTicks_succ (n : Nat) :
    lowTicks (n + 1) = { rst := false, start := false, pinIn := false } :: lowTicks n := rfl

/-- Loading triples puts the first on the ports and the rest in `pending`, and touches no register. -/
theorem loadTicks_cons (s : State) (i : Inputs) (rest : List Inputs) :
    loadTicks s (i :: rest) = { s with inp := i, pending := rest, tail := .held, host := .free } := rfl

end Sys2Proof.Machine
end

