-- ==== Sys2Proof/Tests/Slice0.lean ====
section
/-!
SUPPORT. Tests of the model and witnesses of the statements. Expected values are those of spec/95_test_vectors.md (named V<n>,
E<n>, P<n>) or worked by hand from the rule named; a test runs one step. A theorem named witness_<statement> shows a
state that meets that statement's hypotheses together, one per clause.
-/

namespace Sys2Proof.Tests

open Sys2Proof Sys2Proof.Machine

/-! ## Helpers -/

/-- A field of the next state, if there is one. -/
def after {α : Type} (r : Result) (f : State → α) : Option α :=
  match r with
  | .next t => some (f t)
  | _ => none

/-- The reset state with the inputs held (R101), so that no draw is taken. -/
def quiet : State := { State.reset with tail := .held }

/-- `quiet` in a given state, with a given counter, bit index and line level. -/
def at' (st : StateCode) (cnt : Nat) (idx : BitIndex) (pin : Level) : State :=
  { quiet with st := st, cnt := cnt, idx := idx, inp := { rst := false, start := false, pinIn := pin } }

/-- Small legal parameters, for witnesses of statements about runs. -/
def tiny : Config := { tIdle := 3, holdLow := 2, release := 2, tAck := 3, tBitStart := 3, settle := 2, tBitEnd := 3 }

/-- `at'` with the small parameters. -/
def tinyAt (st : StateCode) (cnt : Nat) (idx : BitIndex) (pin : Level) : State :=
  { at' st cnt idx pin with cfg := tiny }

/-- A frame of five bytes in `quiet`, in VALIDATE, after the reading 50, 27 (P1). -/
def framed (f : Vector Byte 5) : State :=
  { quiet with st := 10#4, idx := 39#6, frame := f, hum := 50#8, temp := 27#8, status := 0x01#6, pull := true }

/-- The buffer of example E2, written out. -/
def bitsE2 : Vector Bool 40 :=
  #v[true, false, false, false, false, false, true, false,
     false, false, false, false, false, false, false, false,
     false, false, false, true, true, false, false, true,
     false, false, false, false, false, false, false, false,
     true, false, false, true, false, false, true, true]

/-! ## Well-formedness: one refused configuration per check (R7), the bounds accepted -/

theorem test_default_legal : Config.default.legal = true := by decide
theorem test_bounds_legal : ({ tIdle := 1, holdLow := 32767, minPeriodS := 0 } : Config).legal = true := by decide
theorem test_tIdle_zero_refused : ({ tIdle := 0 } : Config).legal = false := by decide
theorem test_holdLow_zero_refused : ({ holdLow := 0 } : Config).legal = false := by decide
theorem test_release_zero_refused : ({ release := 0 } : Config).legal = false := by decide
theorem test_tAck_zero_refused : ({ tAck := 0 } : Config).legal = false := by decide
theorem test_tBitStart_zero_refused : ({ tBitStart := 0 } : Config).legal = false := by decide
theorem test_settle_zero_refused : ({ settle := 0 } : Config).legal = false := by decide
theorem test_tBitEnd_zero_refused : ({ tBitEnd := 0 } : Config).legal = false := by decide
theorem test_negative_period_refused : ({ minPeriodS := -1 } : Config).legal = false := by decide
/-- R8, D18: CNT_W is 15 with the defaults, 16 with a HOLD_LOW of 40000, and such an instance is legal. -/
theorem test_cntWidth :
    Config.default.cntWidth = 15 ∧ ({ holdLow := 40000 } : Config).cntWidth = 16 ∧
      ({ holdLow := 32767 } : Config).cntWidth = 15 ∧ ({ holdLow := 32768 } : Config).cntWidth = 16 ∧
      ({ holdLow := 40000 } : Config).legal = true := by decide

theorem test_step_refuses_illegal :
    step { quiet with cfg := { tIdle := 0 } } = .refused .illegalConfiguration := rfl

/-! ## Decoding: every row's word, written out from R90, R93 and R99 -/

theorem test_decode_idle : decode (.state4 0b0000#4) = .ok .idle := by decide
theorem test_decode_waitIdle : decode (.state4 0b0001#4) = .ok .waitIdle := by decide
theorem test_decode_driveLow : decode (.state4 0b0010#4) = .ok .driveLow := by decide
theorem test_decode_driveHigh : decode (.state4 0b0011#4) = .ok .driveHigh := by decide
theorem test_decode_ackLow : decode (.state4 0b0100#4) = .ok .ackLow := by decide
theorem test_decode_ackHigh : decode (.state4 0b0101#4) = .ok .ackHigh := by decide
theorem test_decode_bitStart : decode (.state4 0b0110#4) = .ok .bitStart := by decide
theorem test_decode_bitSettle : decode (.state4 0b0111#4) = .ok .bitSettle := by decide
theorem test_decode_bitEnd : decode (.state4 0b1000#4) = .ok .bitEnd := by decide
theorem test_decode_assemble : decode (.state4 0b1001#4) = .ok .assemble := by decide
theorem test_decode_validate : decode (.state4 0b1010#4) = .ok .validate := by decide
theorem test_decode_reserved11 : decode (.state4 0b1011#4) = .ok .reserved11 := by decide
theorem test_decode_reserved12 : decode (.state4 0b1100#4) = .ok .reserved12 := by decide
theorem test_decode_reserved13 : decode (.state4 0b1101#4) = .ok .reserved13 := by decide
theorem test_decode_reserved14 : decode (.state4 0b1110#4) = .ok .reserved14 := by decide
theorem test_decode_reserved15 : decode (.state4 0b1111#4) = .ok .reserved15 := by decide
theorem test_decode_start : decode (.strobe2 0b01#2) = .ok .start := by decide
theorem test_decode_rst : decode (.strobe2 0b10#2) = .ok .rst := by decide
theorem test_decode_rst_with_start : decode (.strobe2 0b11#2) = .ok .rst := by decide
theorem test_decode_no_command : decode (.strobe2 0b00#2) = .error .noCommand := by decide
theorem test_table_word_state : decodeTableWord 8 0x0A = some .validate := by decide
theorem test_table_word_strobe : decodeTableWord 2 0b01 = some .start := by decide
theorem test_table_word_too_wide : decodeTableWord 8 0x10 = none := by decide
theorem test_placed_state_is_fetched : fetch (State.reset.withFetchWord 8 0x0A) = .validate := by decide
theorem test_placed_strobe_is_fetched : fetch (State.reset.withFetchWord 2 0b01) = .start := by decide

/-! ## One step of each instruction -/

/-- V50: IDLE with `start` = 0 changes nothing. -/
theorem test_idle_rests : exec .idle (at' 0 0 39 true) = .next (at' 0 0 39 true) := rfl

/-- V49: acceptance clears the frame and the index and keeps `status`. -/
theorem test_start_accepts :
    let s := { quiet with frame := #v[0x82, 0x00, 0x19, 0x00, 0x93], status := 0x03#6, idx := 39#6 }
    after (exec .start s) (fun t => (t.st, t.frame, t.idx, t.status)) =
      some (1#4, Vector.replicate 5 0#8, 0#6, 0x03#6) := by decide

/-- V51: in BIT_SETTLE `start` is not read. -/
theorem test_start_in_bitSettle :
    after (exec .start (at' 7 5 0 true)) (fun t => (t.st, t.cnt)) = some (7#4, 6) := by decide

/-- V3: the match on the 250th sample wins over the bound. -/
theorem test_waitIdle_match_wins :
    after (exec .waitIdle (at' 1 249 0 true)) (fun t => (t.st, t.cnt, t.status)) = some (2#4, 0, 0#6) := by decide

/-- V4: the 250th low sample aborts with 0x06. -/
theorem test_waitIdle_times_out :
    after (exec .waitIdle (at' 1 249 0 false)) (fun t => (t.st, t.cnt, t.status)) = some (0#4, 0, 0x06#6) := by decide

/-- V8: 19998 counts to 19999 and stays. -/
theorem test_driveLow_holds :
    after (exec .driveLow (at' 2 19998 0 false)) (fun t => (t.st, t.cnt, t.pull)) = some (2#4, 19999, false) := by decide

/-- R8: with HOLD_LOW = 40000 the counter counts past 2^15. -/
theorem test_driveLow_wide :
    after (exec .driveLow { at' 2 32767 0 false with cfg := { holdLow := 40000 } }) (fun t => (t.st, t.cnt)) =
      some (2#4, 32768) := by decide

/-- V6: the last tick of DRIVE_LOW requests the pull-up. -/
theorem test_driveLow_ends :
    after (exec .driveLow (at' 2 19999 0 false)) (fun t => (t.st, t.cnt, t.pull)) = some (3#4, 0, true) := by decide

/-- V7: the 30th tick of DRIVE_HIGH ends the drive. -/
theorem test_driveHigh_ends :
    after (exec .driveHigh (at' 3 29 0 true)) (fun t => (t.st, t.cnt, pinOe t)) = some (4#4, 0, false) := by decide

/-- V7: the 29th does not. -/
theorem test_driveHigh_holds :
    after (exec .driveHigh (at' 3 28 0 true)) (fun t => (t.st, t.cnt, pinOut t)) = some (3#4, 29, true) := by decide

/-- V10: ACK_LOW succeeds on its 100th sample. -/
theorem test_ackLow_match :
    after (exec .ackLow (at' 4 99 0 false)) (fun t => (t.st, t.status)) = some (5#4, 0#6) := by decide

/-- V11: the 100th high sample aborts with 0x12. -/
theorem test_ackLow_times_out :
    after (exec .ackLow (at' 4 99 0 true)) (fun t => (t.st, t.status)) = some (0#4, 0x12#6) := by decide

/-- V9: ACK_HIGH sees high at once. -/
theorem test_ackHigh_match :
    after (exec .ackHigh (at' 5 0 0 true)) (fun t => (t.st, t.status)) = some (6#4, 0#6) := by decide

/-- V12: the 100th low sample aborts with 0x16. -/
theorem test_ackHigh_times_out :
    after (exec .ackHigh (at' 5 99 0 false)) (fun t => (t.st, t.status)) = some (0#4, 0x16#6) := by decide

/-- R140, R40: the 75th sample of BIT_START may still match. -/
theorem test_bitStart_match :
    after (exec .bitStart (at' 6 74 17 false)) (fun t => (t.st, t.idx)) = some (7#4, 17#6) := by decide

/-- V20: 75 high samples at bit 17 abort with 0x1A, `idx` keeps 17. -/
theorem test_bitStart_times_out :
    after (exec .bitStart (at' 6 74 17 true)) (fun t => (t.st, t.idx, t.status)) = some (0#4, 17#6, 0x1A#6) := by decide

/-- V13: the level at the 40th tick is recorded, in element `idx`. -/
theorem test_bitSettle_samples :
    after (exec .bitSettle (at' 7 39 17 true)) (fun t => (t.st, t.cnt, t.bitbuf[17], t.bitbuf[16], t.bitbuf[18])) =
      some (8#4, 0, true, false, false) := by decide

/-- V16: a high at the 39th tick is not seen. -/
theorem test_bitSettle_ignores_earlier :
    after (exec .bitSettle (at' 7 38 17 true)) (fun t => (t.st, t.cnt, t.bitbuf[17])) = some (7#4, 39, false) := by decide

/-- R142: bit 38 is followed by bit 39, bit 39 by ASSEMBLE. -/
theorem test_bitEnd_loops :
    after (exec .bitEnd (at' 8 49 38 true)) (fun t => (t.st, t.idx)) = some (6#4, 39#6) ∧
    after (exec .bitEnd (at' 8 49 39 true)) (fun t => (t.st, t.idx)) = some (9#4, 39#6) := by decide

/-- V22: the 50th low sample aborts with 0x22. -/
theorem test_bitEnd_times_out :
    after (exec .bitEnd (at' 8 49 39 false)) (fun t => (t.st, t.idx, t.status)) = some (0#4, 39#6, 0x22#6) := by decide

/-- E2, V24: the buffer packs to 82 00 19 00 93. -/
theorem test_assemble_e2 :
    after (exec .assemble { quiet with st := 9#4, bitbuf := bitsE2 }) (fun t => (t.st, t.frame, frameO t)) =
      some (10#4, #v[0x82#8, 0x00#8, 0x19#8, 0x00#8, 0x93#8], 0x8200190093#40) := by decide

/-- V30: only element 15 set is bit 0 of byte 1. -/
theorem test_assemble_bit15 :
    after (exec .assemble { quiet with st := 9#4, bitbuf := (Vector.replicate 40 false).set 15 true }) frameO =
      some 0x0001000000#40 := by decide

/-- V32, V34: the carries out of the low byte are dropped. -/
theorem test_validate_accepts :
    after (exec .validate (framed #v[0xFF, 0xFF, 0xFF, 0xFF, 0xFC])) (fun t => (t.st, t.hum, t.temp, t.status)) =
      some (0#4, 255#8, 255#8, 0x01#6) ∧
    after (exec .validate (framed #v[0x80, 0x80, 0x00, 0x00, 0x00])) (fun t => (t.hum, t.temp, t.status)) =
      some (128#8, 0#8, 0x01#6) := by decide

/-- V38, V41: a mismatch keeps the cached reading. -/
theorem test_validate_rejects :
    after (exec .validate (framed #v[0x82, 0x00, 0x19, 0x00, 0x93])) (fun t => (t.st, t.hum, t.temp, t.status)) =
      some (0#4, 50#8, 27#8, 0x03#6) ∧
    after (exec .validate (framed #v[0x28, 0x05, 0x17, 0x03, 0x3F])) (fun t => (t.hum, t.temp, t.status)) =
      some (50#8, 27#8, 0x03#6) := by decide

/-- V48: code 13 goes to IDLE, `cnt` to 0, the rest stays; during the tick `busy` = 1 and `pin_oe` = 0. -/
theorem test_reserved13 :
    exec .reserved13 (at' 13 77 5 true) = .next (at' 0 0 5 true) ∧ busy (at' 13 77 5 true) = true ∧
      pinOe (at' 13 77 5 true) = false := ⟨rfl, rfl, rfl⟩

/-- R93: the same for the other reserved codes. -/
theorem test_reserved_others :
    exec .reserved11 (at' 11 1 2 true) = .next (at' 0 0 2 true) ∧ exec .reserved12 (at' 12 1 2 true) = .next (at' 0 0 2 true) ∧
    exec .reserved14 (at' 14 1 2 true) = .next (at' 0 0 2 true) ∧
    exec .reserved15 (at' 15 1 2 true) = .next (at' 0 0 2 true) := ⟨rfl, rfl, rfl, rfl⟩

/-- V46: reset from the middle of the low pulse. -/
theorem test_rst :
    exec .rst { at' 2 98 0 true with hum := 50#8, temp := 27#8, status := 0x01#6, pull := true } =
      .next (at' 0 0 0 true) := rfl

/-- V47: reset wins over `start`. -/
theorem test_rst_wins : fetch { quiet with inp := { rst := true, start := true, pinIn := true } } = .rst := by decide

/-! ## The host driver: the boundaries of P7, with the difference as the elapsed time -/

theorem test_limiter_first_call : mayProceed (fun a b => b - a) 3 none 0 = true := by decide
theorem test_limiter_just_below : mayProceed (fun a b => b - a) 3 (some 0) (2999 / 1000) = false := by norm_num [mayProceed]
theorem test_limiter_at_three : mayProceed (fun a b => b - a) 3 (some 0) 3 = true := by norm_num [mayProceed]

/-- P7, row 3: a throttled `read_humidity` returns 50 and raises nothing. -/
theorem test_throttled_read :
    let d := { Driver.initial with lastTs := some 0 }
    let act := driverAct (fun a b => b - a) 3 (2999 / 1000) false 50#8 27#8 (some .readHumidity) d
    act.start = false ∧ act.driver.reply = some (.humidity 50#8) ∧ act.driver.lastTs = some 0 := by
  norm_num [driverAct, beginCall, finishCall, replyOf, mayProceed, Driver.initial]

/-- P7, row 4: at 3.0 the call proceeds, the timestamp is 3.0 before the transaction ends. -/
theorem test_call_proceeds :
    let d := { Driver.initial with lastTs := some 0 }
    let act := driverAct (fun a b => b - a) 3 3 false 50#8 27#8 (some .readHumidity) d
    act.start = true ∧ act.driver.phase = .waiting .readHumidity ∧ act.driver.lastTs = some 3 := by
  norm_num [driverAct, beginCall, beginTransaction, mayProceed, Driver.initial]

/-! ## Witnesses: encodings and the step -/

theorem witness_DecodeOfEncode :
    decode (.state4 5#4) = .ok .ackHigh ∧ encode .ackHigh = .state4 5#4 ∧ decode (.strobe2 3#2) = .ok .rst := by decide

theorem witness_PlacedWord_strobe :
    let s := { quiet with inp := { rst := false, start := true, pinIn := true } }
    s.cfg.legal = true ∧ decode (.strobe2 (BitVec.ofBool s.inp.rst ++ BitVec.ofBool s.inp.start)) = .ok .start ∧
      ∃ t, exec .start s = .next t := ⟨by decide, by decide, _, rfl⟩

theorem witness_StepRuns_rst :
    let s := { quiet with inp := { rst := true, start := true, pinIn := true } }
    s.cfg.legal = true ∧ s.inp.rst = true ∧ ∃ t, exec .rst s = .next t := ⟨by decide, rfl, _, rfl⟩

theorem witness_StepRuns_state :
    let s := at' 10 0 39 true
    s.cfg.legal = true ∧ s.inp.rst = false ∧ decode (.state4 s.st) = .ok .validate ∧ ∃ t, exec .validate s = .next t :=
  ⟨by decide, rfl, by decide, _, rfl⟩

theorem witness_PlacedWord :
    quiet.cfg.legal = true ∧ decodeTableWord 8 0x0F = some .reserved15 ∧ decodeTableWord 2 0b11 = some .rst := by decide

/-- Both ends of the legal range, and one step outside either. -/
theorem witness_StepAnswers :
    let inRange := fun (c : Config) (n : Nat) => 1 ≤ n ∧ n < 2 ^ c.cntWidth
    inRange { tIdle := 1 } 1 ∧ inRange { holdLow := 40000 } 40000 ∧ ¬ inRange { tIdle := 0 } 0 ∧
      (0 : Seconds) ≤ 0 ∧ ¬ (0 : Seconds) ≤ -1 := by decide

/-- The counter at the top of its width, which is where the width could be left. -/
theorem witness_CounterWidth :
    let s := { at' 2 32767 0 false with cfg := { holdLow := 40000 } }
    s.cfg.legal = true ∧ s.cnt < 2 ^ s.cfg.cntWidth ∧ (∃ t, step s = .next t ∧ t.cnt = 32768) ∧
    (∀ n ∈ [250, 40000, 30, 100, 75, 40, 50], n < 2 ^ 16) := ⟨by decide, by decide, ⟨_, rfl, by decide⟩, by decide⟩

theorem witness_NextInputs_pending :
    let s := { quiet with pending := [{ rst := true, start := false, pinIn := false }] }
    s.host = .free ∧ (∃ t, step s = .next t) ∧ s.pending ≠ [] := ⟨rfl, ⟨_, rfl⟩, by decide⟩

theorem witness_NextInputs_held :
    quiet.host = .free ∧ (∃ t, step quiet = .next t) ∧ quiet.pending = [] ∧ quiet.tail = .held := ⟨rfl, ⟨_, rfl⟩, rfl, rfl⟩

theorem witness_NextInputs_drawn :
    State.reset.host = .free ∧ (∃ t, step State.reset = .next t) ∧ State.reset.pending = [] ∧ State.reset.tail = .drawn :=
  ⟨rfl, ⟨_, rfl⟩, rfl, rfl⟩

/-! ## Witnesses: the meanings -/

theorem witness_Start_idle : (at' 0 0 0 true).st = 0#4 := rfl
theorem witness_Start_busy : (at' 15 3 0 true).st ≠ 0#4 := by decide

theorem witness_Rst :
    let s := { at' 2 98 0 true with inp := { rst := true, start := false, pinIn := true } }
    s.cfg.legal = true ∧ s.inp.rst = true := by decide

/-- The last tick but one, and the last with an index in range and one out of range. -/
theorem witness_BitSettle :
    (at' 7 38 39 true).cnt < (at' 7 38 39 true).cfg.settle - 1 ∧
    (at' 7 39 39 true).cfg.settle - 1 ≤ (at' 7 39 39 true).cnt ∧
    after (exec .bitSettle (at' 7 39 39 true)) (fun t => t.bitbuf[39]) = some true ∧
    after (exec .bitSettle (at' 7 39 40 true)) (fun t => t.bitbuf) = some (Vector.replicate 40 false) := by decide

theorem witness_Reserved :
    Instr.reserved11 ∈ [Instr.reserved11, .reserved12, .reserved13, .reserved14, .reserved15] ∧
    11 ≤ (11#4).toNat ∧ 11 ≤ (15#4).toNat ∧ 11 ≤ (at' 11 0 0 true).st.toNat ∧ (at' 10 0 39 true).st.toNat ≤ 10 := by decide

theorem witness_Reserved_step : ∃ t, step (at' 10 0 39 true) = .next t := ⟨_, rfl⟩

/-! ## Witnesses: frames and whole-machine rules -/

theorem witness_Writers_cnt : ∃ t, exec .waitIdle (at' 1 0 0 false) = .next t ∧ t.cnt ≠ (at' 1 0 0 false).cnt :=
  ⟨_, rfl, by decide⟩

theorem witness_Writers_idx : ∃ t, exec .start { at' 0 0 39 true with inp := ⟨false, true, true⟩ } = .next t ∧ t.idx ≠ 39#6 :=
  ⟨_, rfl, by decide⟩

theorem witness_Writers_bitbuf :
    ∃ t, exec .bitSettle (at' 7 39 0 true) = .next t ∧ t.bitbuf ≠ (at' 7 39 0 true).bitbuf := ⟨_, rfl, by decide⟩

theorem witness_Writers_frame :
    let s := { at' 9 0 39 true with bitbuf := bitsE2 }
    ∃ t, exec .assemble s = .next t ∧ t.frame ≠ s.frame := ⟨_, rfl, by decide⟩

theorem witness_Writers_reading :
    let s := framed #v[0x28, 0x05, 0x17, 0x03, 0x47]
    ∃ t, exec .validate s = .next t ∧ t.hum ≠ s.hum ∧ t.temp ≠ s.temp := ⟨_, rfl, by decide, by decide⟩

theorem witness_Writers_status :
    ∃ t, exec .ackLow (at' 4 99 0 true) = .next t ∧ t.status ≠ (at' 4 99 0 true).status := ⟨_, rfl, by decide⟩

theorem witness_Writers_pull :
    ∃ t, exec .driveLow (at' 2 19999 0 true) = .next t ∧ t.pull ≠ (at' 2 19999 0 true).pull := ⟨_, rfl, by decide⟩

/-- A tick that leaves the reading, and V40, one that commits it. -/
theorem witness_CacheChanges_kept :
    let s := framed #v[0x32, 0x00, 0x1B, 0x00, 0x4E]
    ∃ t, step s = .next t ∧ s.inp.rst = false ∧ t.hum = s.hum ∧ t.temp = s.temp := ⟨_, rfl, rfl, by decide, by decide⟩

theorem witness_CacheChanges_committed :
    let s := framed #v[0x28, 0x05, 0x17, 0x03, 0x47]
    ∃ t, step s = .next t ∧ s.inp.rst = false ∧ t.hum = 40#8 ∧ t.temp = 23#8 := ⟨_, rfl, rfl, by decide, by decide⟩

theorem witness_StatusChanges_timeout :
    let s := at' 8 49 17 false
    ∃ t, step s = .next t ∧ s.inp.rst = false ∧ t.status ≠ s.status := ⟨_, rfl, rfl, by decide⟩

theorem witness_StatusChanges_result :
    let s := framed #v[0x32, 0x00, 0x1B, 0x00, 0x4E]
    ∃ t, step s = .next t ∧ s.inp.rst = false ∧ t.status ≠ s.status := ⟨_, rfl, rfl, by decide⟩

theorem witness_PullUp_set :
    let s := at' 2 19999 0 true
    ∃ t, step s = .next t ∧ s.inp.rst = false ∧ s.pull = false ∧ t.pull = true := ⟨_, rfl, rfl, rfl, by decide⟩

theorem witness_PullUp_kept :
    let s := { at' 1 249 0 false with pull := true }
    ∃ t, step s = .next t ∧ s.inp.rst = false ∧ s.pull = true := ⟨_, rfl, rfl, rfl⟩

/-- The last bit and the one before it; a reserved code; and one state for each note: reset, abort, sample, VALIDATE. -/
theorem witness_Transitions :
    (∃ t, step (at' 8 49 38 true) = .next t ∧ t.st = 6#4) ∧ (∃ t, step (at' 8 49 39 true) = .next t ∧ t.st = 9#4) ∧
    (∃ t, step (at' 15 0 0 true) = .next t ∧ t.st = 0#4) ∧
    (∃ t, step { at' 2 98 0 true with inp := ⟨true, false, true⟩ } = .next t ∧ t.st = 0#4) ∧
    (∃ t, step (at' 6 74 0 true) = .next t ∧ t.st = 0#4) ∧
    (∃ t, step (at' 7 39 39 true) = .next t ∧ t.st = 8#4 ∧ t.bitbuf[39] = true) ∧
    ∃ t, step (at' 10 0 39 true) = .next t ∧ t.status = 0x01#6 :=
  ⟨⟨_, rfl, by decide⟩, ⟨_, rfl, by decide⟩, ⟨_, rfl, by decide⟩, ⟨_, rfl, by decide⟩, ⟨_, rfl, by decide⟩,
    ⟨_, rfl, by decide, by decide⟩, ⟨_, rfl, by decide⟩⟩

theorem witness_StartIsNotRead : (at' 10 0 39 true).st ≠ 0#4 := by decide

theorem witness_CacheStatusAndPull : ∃ t, runTicks 4 (tinyAt 1 0 0 true) = .next t ∧ t.st = 3#4 := ⟨_, rfl, by decide⟩

/-- A reset tick, a delay state, and BIT_SETTLE on its last tick but one. -/
theorem witness_PinInIsRead :
    (let s := { at' 1 0 0 false with inp := ⟨true, false, false⟩ }
     s.inp.rst = true ∧ ∃ t, exec (fetch s) s = .next t) ∧
    (let s := at' 3 29 0 false
     s.st ∉ [1#4, 4#4, 5#4, 6#4, 8#4] ∧ s.st ≠ 7#4 ∧ ∃ t, exec (fetch s) s = .next t) ∧
    (let s := at' 7 38 0 false
     s.st ∉ [1#4, 4#4, 5#4, 6#4, 8#4] ∧ s.cnt < s.cfg.settle - 1 ∧ ∃ t, exec (fetch s) s = .next t) :=
  ⟨⟨rfl, _, rfl⟩, ⟨by decide, by decide, _, rfl⟩, ⟨by decide, by decide, _, rfl⟩⟩

/-! ## Witnesses: failures and the invariant -/

/-- Each of the five waits on its last allowed sample, and that sample does not match. -/
theorem witness_Timeout :
    waitOf Config.default 1#4 = some (true, 250) ∧ 250 - 1 ≤ (at' 1 249 0 false).cnt ∧
    waitOf Config.default 4#4 = some (false, 100) ∧ 100 - 1 ≤ (at' 4 99 0 true).cnt ∧
    waitOf Config.default 5#4 = some (true, 100) ∧ 100 - 1 ≤ (at' 5 99 0 false).cnt ∧
    waitOf Config.default 6#4 = some (false, 75) ∧ 75 - 1 ≤ (at' 6 74 0 true).cnt ∧
    waitOf Config.default 8#4 = some (true, 50) ∧ 50 - 1 ≤ (at' 8 49 0 false).cnt ∧
    (at' 1 249 0 false).cfg.legal = true ∧ (at' 1 249 0 false).inp.rst = false := by decide

theorem inv_waitIdle : Machine.Inv (at' 1 249 0 false) := by
  constructor
  case cntBound => intro n h; cases h; decide
  all_goals decide

theorem inv_ackLow : Machine.Inv { at' 4 99 0 true with pull := true } := by
  constructor
  case cntBound => intro n h; cases h; decide
  all_goals decide

theorem inv_ackHigh : Machine.Inv { at' 5 99 0 false with pull := true } := by
  constructor
  case cntBound => intro n h; cases h; decide
  all_goals decide

theorem inv_bitStart : Machine.Inv { at' 6 74 17 true with pull := true } := by
  constructor
  case cntBound => intro n h; cases h; decide
  all_goals decide

theorem inv_bitEnd : Machine.Inv { at' 8 49 39 false with pull := true } := by
  constructor
  case cntBound => intro n h; cases h; decide
  all_goals decide

/-- Step (a) and both acknowledgment edges fail from states that meet the invariant. -/
theorem witness_FailedInitiation :
    (∃ t, step (at' 1 249 0 false) = .next t ∧ t.st = 0#4) ∧
    (∃ t, step { at' 4 99 0 true with pull := true } = .next t ∧ t.st = 0#4) ∧
    (∃ t, step { at' 5 99 0 false with pull := true } = .next t ∧ t.st = 0#4) ∧
    Machine.Inv (at' 1 249 0 false) ∧ Machine.Inv { at' 4 99 0 true with pull := true } ∧
    Machine.Inv { at' 5 99 0 false with pull := true } :=
  ⟨⟨_, rfl, by decide⟩, ⟨_, rfl, by decide⟩, ⟨_, rfl, by decide⟩, inv_waitIdle, inv_ackLow, inv_ackHigh⟩

theorem witness_FailedSampling :
    (∃ t, step { at' 6 74 17 true with pull := true } = .next t ∧ t.st = 0#4) ∧
    (∃ t, step { at' 8 49 39 false with pull := true } = .next t ∧ t.st = 0#4) ∧
    Machine.Inv { at' 6 74 17 true with pull := true } ∧ Machine.Inv { at' 8 49 39 false with pull := true } :=
  ⟨⟨_, rfl, by decide⟩, ⟨_, rfl, by decide⟩, inv_bitStart, inv_bitEnd⟩

theorem witness_EveryStepKeeps :
    Machine.Inv { at' 8 49 39 false with pull := true } ∧
    ∃ t, step { at' 8 49 39 false with pull := true } = .next t := ⟨inv_bitEnd, _, rfl⟩

/-- V38: 0x9B is not 0x93; the step that records it starts from status 0x01. -/
theorem witness_Checksum :
    let s := framed #v[0x82, 0x00, 0x19, 0x00, 0x93]
    (s.frame[0].toNat + s.frame[1].toNat + s.frame[2].toNat + s.frame[3].toNat) % 256 ≠ s.frame[4].toNat ∧
    s.status ≠ 0x03#6 ∧ ∃ t, step s = .next t ∧ t.status = 0x03#6 := ⟨by decide, by decide, _, rfl, by decide⟩

theorem witness_StatusKeeps :
    let s := at' 5 99 0 false
    s.status ∈ [0x00#6, 0x01#6, 0x03#6, 0x06#6, 0x12#6, 0x16#6, 0x1A#6, 0x22#6] ∧ ∃ t, step s = .next t ∧ t.status = 0x16#6 :=
  ⟨by decide, _, rfl, by decide⟩

theorem witness_FrameOutput : ∃ t, exec .assemble { quiet with bitbuf := bitsE2 } = .next t ∧ frameO t = 0x8200190093#40 :=
  ⟨_, rfl, by decide⟩

theorem witness_Packing :
    ∃ t, exec .assemble { quiet with bitbuf := bitsE2 } = .next t ∧ t.frame = #v[0x82#8, 0x00#8, 0x19#8, 0x00#8, 0x93#8] :=
  ⟨_, rfl, by decide⟩

/-! ## Witnesses: runs -/

/-- The line held off the target level, in each wait state. -/
theorem witness_WaitTimesOut :
    tiny.legal = true ∧
    (waitOf tiny 1#4 = some (true, 3) ∧
      InputsAlong (tinyAt 1 0 0 false) 3 (fun _ i => i.rst = false ∧ i.pinIn ≠ true)) ∧
    (waitOf tiny 4#4 = some (false, 3) ∧
      InputsAlong (tinyAt 4 0 0 true) 3 (fun _ i => i.rst = false ∧ i.pinIn ≠ false)) ∧
    (waitOf tiny 8#4 = some (true, 3) ∧
      InputsAlong (tinyAt 8 0 39 false) 3 (fun _ i => i.rst = false ∧ i.pinIn ≠ true)) :=
  ⟨by decide, ⟨by decide, inputsAlong_of (by decide) (by decide)⟩, ⟨by decide, inputsAlong_of (by decide) (by decide)⟩,
    ⟨by decide, inputsAlong_of (by decide) (by decide)⟩⟩

/-- A match on the first sample, and one on the last, the third. -/
theorem witness_WaitSucceeds :
    waitOf tiny 1#4 = some (true, 3) ∧ (0 : Nat) < 3 ∧
    InputsAlong (tinyAt 1 0 0 true) (0 + 1) (fun k i => i.rst = false ∧ (i.pinIn = true ↔ k = 0)) ∧ (2 : Nat) < 3 ∧
    InputsAlong { tinyAt 1 0 0 false with pending := [⟨false, false, false⟩, ⟨false, false, true⟩] } (2 + 1)
      (fun k i => i.rst = false ∧ (i.pinIn = true ↔ k = 2)) :=
  ⟨by decide, by decide, inputsAlong_of (by decide) (by decide), by decide, inputsAlong_of (by decide) (by decide)⟩

/-- The same for the last bit's end-of-bit. -/
theorem witness_WaitSucceeds_bitEnd :
    waitOf tiny 8#4 = some (true, 3) ∧
    InputsAlong { tinyAt 8 0 39 false with pending := [⟨false, false, true⟩] } (1 + 1)
      (fun k i => i.rst = false ∧ (i.pinIn = true ↔ k = 1)) :=
  ⟨by decide, inputsAlong_of (by decide) (by decide)⟩

theorem witness_HostPulse :
    let s := tinyAt 2 0 0 false
    s.cfg.legal = true ∧ s.st = 2#4 ∧ s.cnt = 0 ∧
      InputsAlong s (s.cfg.holdLow + s.cfg.release) (fun _ i => i.rst = false) :=
  ⟨by decide, rfl, rfl, inputsAlong_of (by decide) (by decide)⟩

/-- The last bit, the line low at its start and high at the sample. -/
theorem witness_BitIsTheLevel :
    let s := { tinyAt 6 2 39 false with pending := [⟨false, false, false⟩, ⟨false, false, true⟩] }
    s.cfg.legal = true ∧ s.st = 6#4 ∧ s.idx.toNat ≤ 39 ∧ s.inp.pinIn = false ∧
      InputsAlong s (s.cfg.settle + 1) (fun _ i => i.rst = false) ∧
      ∃ u, runTicks s.cfg.settle s = .next u ∧ u.inp.pinIn = true :=
  ⟨by decide, rfl, by decide, rfl, inputsAlong_of (by decide) (by decide), _, rfl, by decide⟩

theorem witness_EveryTransactionEnds :
    (tinyAt 15 9 63 true).cfg.legal = true ∧ (tinyAt 15 9 63 true).st ≠ 0#4 ∧
    (at' 1 0 0 true).cfg = Config.default ∧ (at' 1 0 0 true).st ≠ 0#4 := by decide

/-- `quiet` at tick `j`. -/
def resting (j : Nat) : State := { quiet with tick := j }

theorem resting_run (k : Nat) : ∀ j, runTicks k (resting j) = .next (resting (j + k)) := by
  induction k with
  | zero => intro j; rfl
  | succ k ih =>
    intro j
    have h : nextTick (afterTick (resting j)) = resting (j + 1) := rfl
    rw [runTicks_succ k _ test_default_legal, h, ih (j + 1), Nat.add_assoc, Nat.add_comm 1 k]

/-- The greatest number of ticks the statement covers. -/
theorem witness_NoResult :
    (resting 0).cfg = Config.default ∧ (resting 0).st = 0#4 ∧ (21715 : Nat) < 21716 ∧
    InputsAlong (resting 0) 21715 (fun _ i => i.rst = false) ∧ ∃ t, runTicks 21715 (resting 0) = .next t := by
  refine ⟨rfl, rfl, by decide, ?_, _, resting_run 21715 0⟩
  intro k _ t ht
  rw [resting_run k 0] at ht
  cases ht
  rfl

/-- WAIT_IDLE with the line low, `j` samples taken (V4, V5). -/
def stuckLow (j : Nat) : State := { at' 1 j 0 false with tick := j + 1 }

/-- The acceptance tick before it. -/
def stuckLowStart : State := { quiet with inp := { rst := false, start := true, pinIn := false } }

theorem stuckLow_tick (j : Nat) (h : j < 249) : nextTick (afterTick (stuckLow j)) = stuckLow (j + 1) := by
  have hw : afterTick (stuckLow j) = { stuckLow j with cnt := j + 1 } := by
    rw [afterTick_waitIdle rfl rfl]
    unfold waitLevel
    rw [if_neg (by change ¬ false = true; decide), if_neg (by change ¬ (250 - 1 ≤ j); omega),
      countUp_eq (n := 250) (by change 250 ≤ Config.default.largest; decide) (by change j < 250 - 1; omega)]
    rfl
  rw [hw]
  rfl

theorem stuckLow_run (k : Nat) (h : k ≤ 249) : runTicks (k + 1) stuckLowStart = .next (stuckLow k) := by
  induction k with
  | zero => rfl
  | succ k ih =>
    rw [runTicks_add (by decide) (ih (by omega)), runTicks_succ 0 _ test_default_legal, stuckLow_tick k (by omega)]
    rfl

/-- A whole transaction: 251 ticks from acceptance to the IDLE tick after the timeout, as the table says. -/
theorem witness_TransactionLengths :
    stuckLowStart.cfg = Config.default ∧ stuckLowStart.st = 0#4 ∧ stuckLowStart.inp.start = true ∧ 0 < 251 ∧
    InputsAlong stuckLowStart 251 (fun _ i => i.rst = false) ∧
    (∀ k, 0 < k → k < 251 → ∃ u, runTicks k stuckLowStart = .next u ∧ busy u = true) ∧
    ∃ t, runTicks 251 stuckLowStart = .next t ∧ busy t = false := by
  refine ⟨rfl, rfl, rfl, by decide, ?_, ?_, nextTick (afterTick (stuckLow 249)), ?_, by decide⟩
  · intro k hk t ht
    cases k with
    | zero => cases ht; rfl
    | succ k => rw [stuckLow_run k (by omega)] at ht; cases ht; rfl
  · intro k h0 hk
    obtain ⟨j, rfl⟩ : ∃ j, k = j + 1 := ⟨k - 1, by omega⟩
    exact ⟨stuckLow j, stuckLow_run j (by omega), rfl⟩
  · rw [runTicks_add (k := 1) (by decide) (stuckLow_run 249 (by omega)), runTicks_succ 0 _ test_default_legal]
    rfl

theorem witness_TransactionReceives : State.reset.cfg = Config.default ∧ State.reset.st = 0#4 := ⟨rfl, rfl⟩

/-! ## Witnesses: the host driver -/

/-- A call let through (no timestamp) and a throttled one, both with the driver ready. -/
theorem witness_Call :
    Driver.initial.phase = .ready ∧ mayProceed (fun _ _ => 0) 3 none 0 = true ∧
    mayProceed (fun _ _ => 0) 3 (some 0) 0 = false := ⟨rfl, rfl, by norm_num [mayProceed]⟩

/-- A call let through while `busy` is 1, and one while it is 0. -/
theorem witness_Call_busy :
    Driver.initial.phase = .ready ∧ mayProceed (fun _ _ => 0) 3 Driver.initial.lastTs 7 = true ∧
    (driverAct (fun _ _ => 0) 3 7 true 0#8 0#8 (some .update) Driver.initial).start = false ∧
    (driverAct (fun _ _ => 0) 3 7 true 0#8 0#8 (some .update) Driver.initial).driver.phase = .starting .update ∧
    (driverAct (fun _ _ => 0) 3 7 false 0#8 0#8 (some .update) Driver.initial).start = true := ⟨rfl, rfl, rfl, rfl, rfl⟩

theorem witness_Timestamp :
    (driverAct (fun _ _ => 0) 3 7 false 0#8 0#8 (some .update) Driver.initial).driver.lastTs ≠ Driver.initial.lastTs := by
  simp [driverAct, beginCall, beginTransaction, mayProceed, Driver.initial]

/-- The machine with the host driver and one call waiting. -/
def driven (op : DriverOp) : State := { quiet with host := .driver, driver := { Driver.initial with calls := [op] } }

theorem witness_DriverRaisesStart :
    (driven .readHumidity).host = .driver ∧ ∃ t, step (driven .readHumidity) = .next t ∧ t.inp.start = true :=
  ⟨rfl, _, rfl, rfl⟩

/-- A minimum period that whatever time has elapsed falls short of: `elapsed_seconds` is under no law (log 6). -/
def slow : State :=
  let elapsed := Config.elapsedSeconds 0 (Config.now 0)
  { driven .readTemperature with
    cfg := { Config.default with minPeriodS := max 0 elapsed + 1 }
    driver := { Driver.initial with calls := [.readTemperature], lastTs := some 0 } }

theorem slow_legal : slow.cfg.legal = true := by
  have h : (0 : Seconds) ≤ max 0 (Config.elapsedSeconds 0 (Config.now 0)) + 1 := by positivity
  have hd : decide ((0 : Seconds) ≤ max 0 (Config.elapsedSeconds 0 (Config.now 0)) + 1) = true := decide_eq_true h
  change (true && decide ((0 : Seconds) ≤ max 0 (Config.elapsedSeconds 0 (Config.now 0)) + 1)) = true
  rw [hd]
  rfl

theorem witness_ThrottledCall :
    slow.cfg.legal = true ∧ slow.host = .driver ∧ slow.st = 0#4 ∧ slow.inp.rst = false ∧ slow.inp.start = false ∧
    slow.driver.phase = .ready ∧ slow.driver.calls = [.readTemperature] ∧ slow.driver.lastTs = some 0 ∧
    Config.elapsedSeconds 0 (Config.now slow.driver.clockReads) < slow.cfg.minPeriodS :=
  ⟨slow_legal, rfl, rfl, rfl, rfl, rfl, rfl, rfl, lt_of_le_of_lt (le_max_right 0 _) (lt_add_one _)⟩

theorem witness_CallReturns :
    let s := { at' 2 5 0 true with host := .driver, driver := { Driver.initial with phase := .waiting .readHumidity } }
    s.cfg.legal = true ∧ s.host = .driver ∧ s.driver.phase = .waiting .readHumidity := ⟨by decide, rfl, rfl⟩

end Sys2Proof.Tests
end

/-! ## Proofs for spec/00_scope.md: the legal configurations and the counter's width -/

namespace Sys2Proof

theorem legalTicks_iff (width n : Nat) : legalTicks width n = true ↔ 1 ≤ n ∧ n < 2 ^ width := by
  simp [legalTicks]

/-- A width holds the largest parameter iff it holds each of the seven (R8). -/
theorem Config.largest_lt_iff (c : Config) (m : Nat) :
    c.largest < m ↔
      ∀ n ∈ [c.tIdle, c.holdLow, c.release, c.tAck, c.tBitStart, c.settle, c.tBitEnd], n < m := by
  simp [Config.largest]

theorem Config.largest_ne_zero_of_legal {c : Config} (h : c.legal = true) : c.largest ≠ 0 := by
  obtain ⟨hIdle, -⟩ := c.legal_iff.1 h
  obtain ⟨hle, -⟩ := c.le_largest
  omega

/-- CNT_W is at most exactly the widths that hold the largest parameter (R8, D18: "the least width"). -/
theorem Config.cntWidth_le_iff {c : Config} (h : c.legal = true) (w : Nat) :
    c.cntWidth ≤ w ↔ c.largest < 2 ^ w :=
  Nat.log2_lt (Config.largest_ne_zero_of_legal h)

/-- The default HOLD_LOW of 20000 lies between 2^14 and 2^15. -/
theorem Config.cntWidth_default : Config.default.cntWidth = 15 :=
  congrArg (· + 1) ((Nat.log2_eq_iff (by decide)).2 (by decide : 2 ^ 14 ≤ 20000 ∧ 20000 < 2 ^ (14 + 1)))

end Sys2Proof

namespace Sys2Proof.Machine

/-- A bounded wait clears the counter or counts up, if what follows it leaves the counter alone (R40). -/
theorem waitLevel_cnt {next : State → State} (hn : ∀ u, (next u).cnt = u.cnt) (level : Level) (bound : Nat)
    (self : StateCode) (s : State) :
    (waitLevel level bound self next s).cnt = 0 ∨
      (waitLevel level bound self next s).cnt = countUp s.cfg s.cnt := by
  unfold waitLevel
  split
  · exact .inl (hn _)
  · split
    · exact .inl rfl
    · exact .inr rfl

/-- A fixed delay clears the counter or counts up, if what follows it leaves the counter alone (R41). -/
theorem delayTicks_cnt {next : State → State} (hn : ∀ u, (next u).cnt = u.cnt) (length : Nat) (s : State) :
    (delayTicks length next s).cnt = 0 ∨ (delayTicks length next s).cnt = countUp s.cfg s.cnt := by
  unfold delayTicks
  split
  · exact .inl (hn _)
  · exact .inr rfl

/-- VALIDATE leaves the counter alone in both branches (R170). -/
theorem validate_cnt (s : State) :
    (goTo stIdle (if frameValid s.frame then commitReading s else raiseChecksumMismatch s)).cnt = s.cnt := by
  split <;> rfl

/-- All that a tick can do to the counter: keep it, clear it, or count up in CNT_W bits (R23, R42). -/
theorem afterTick_cnt_cases (s : State) :
    (afterTick s).cnt = s.cnt ∨ (afterTick s).cnt = 0 ∨ (afterTick s).cnt = countUp s.cfg s.cnt := by
  cases hr : s.inp.rst
  case true => exact .inr (.inl (by rw [afterTick_rst hr, resetRegisters_cnt]))
  case false =>
    rcases stateCode_cases s.st with h | h | h | h | h | h | h | h | h | h | h | h
    · rw [afterTick_idle hr h]
      cases s.inp.start
      · exact .inl rfl
      · exact .inr (.inl rfl)
    · rw [afterTick_waitIdle hr h]
      exact .inr (waitLevel_cnt (goTo_cnt · _) _ _ _ s)
    · rw [afterTick_driveLow hr h]
      refine .inr (delayTicks_cnt ?_ _ s)
      exact fun _ => rfl
    · rw [afterTick_driveHigh hr h]
      exact .inr (delayTicks_cnt (goTo_cnt · _) _ s)
    · rw [afterTick_ackLow hr h]
      exact .inr (waitLevel_cnt (goTo_cnt · _) _ _ _ s)
    · rw [afterTick_ackHigh hr h]
      exact .inr (waitLevel_cnt (goTo_cnt · _) _ _ _ s)
    · rw [afterTick_bitStart hr h]
      exact .inr (waitLevel_cnt (goTo_cnt · _) _ _ _ s)
    · rw [afterTick_bitSettle hr h]
      refine .inr (delayTicks_cnt ?_ _ s)
      exact fun u => memWriteBit_cnt u u.idx u.inp.pinIn
    · rw [afterTick_bitEnd hr h]
      exact .inr (waitLevel_cnt nextBit_cnt _ _ _ s)
    · rw [afterTick_assemble hr h]
      exact .inl rfl
    · rw [afterTick_validate hr h]
      exact .inl (validate_cnt s)
    · rw [afterTick_reserved hr h]
      exact .inr (.inl rfl)

/-- A tick leaves the counter within CNT_W bits if it was within them (R23). -/
theorem afterTick_cnt_lt {s : State} (h : s.cnt < 2 ^ s.cfg.cntWidth) :
    (afterTick s).cnt < 2 ^ s.cfg.cntWidth := by
  rcases afterTick_cnt_cases s with hc | hc | hc
  · rwa [hc]
  · rw [hc]
    exact Nat.two_pow_pos _
  · rw [hc]
    exact countUp_lt _ _

/-- Settles O7: the width by `Nat.log2_lt`, the step by what a tick can do to the counter. -/
theorem counterKeepsTheLeastWidth : Obligations.CounterKeepsTheLeastWidth := by
  unfold Obligations.CounterKeepsTheLeastWidth
  refine ⟨fun c w hl => ?_, Config.cntWidth_default, fun s t hs ht => ?_⟩
  · rw [← c.largest_lt_iff, Config.cntWidth_le_iff hl]
  · obtain ⟨-, rfl⟩ := step_next ht
    rw [nextTick_cnt, nextTick_cfg, afterTick_cfg]
    exact afterTick_cnt_lt hs

/-- Settles O6: R7's ranges are `Config.legal`, by which alone `step` decides whether it answers. -/
theorem stepAnswersIffConfigurationIsLegal : Obligations.StepAnswersIffConfigurationIsLegal := by
  unfold Obligations.StepAnswersIffConfigurationIsLegal
  intro s c inRange ok
  have hok : c.legal = true ↔ ok := by
    simp only [Config.legal, Bool.and_eq_true, legalTicks_iff, decide_eq_true_eq, and_assoc, ok, inRange]
  rw [← hok]
  constructor
  · intro hl
    exact ⟨_, step_eq s hl, by rw [nextTick_cfg, afterTick_cfg]⟩
  · intro hl
    exact step_illegal s (Bool.eq_false_of_not_eq_true hl)

end Sys2Proof.Machine

/-! ## Proofs for spec/10_state.md: the kinds of state, what one tick can do, and the invariant -/

namespace Sys2Proof.Machine

/-! ### The wait states and the delay states (R90) -/

/-- The five wait states with their target levels and bounds. -/
theorem waitOf_cases {c : Config} {st : StateCode} {level : Level} {n : Nat} (h : waitOf c st = some (level, n)) :
    (st = 1#4 ∧ level = true ∧ n = c.tIdle) ∨ (st = 4#4 ∧ level = false ∧ n = c.tAck) ∨
      (st = 5#4 ∧ level = true ∧ n = c.tAck) ∨ (st = 6#4 ∧ level = false ∧ n = c.tBitStart) ∨
      (st = 8#4 ∧ level = true ∧ n = c.tBitEnd) := by
  unfold waitOf at h
  split at h
  case h_6 => cases h
  all_goals
    cases h
    simp [← BitVec.toNat_inj, *]

/-- The three delay states with their lengths. -/
theorem delayOf_cases {c : Config} {st : StateCode} {n : Nat} (h : delayOf c st = some n) :
    (st = 2#4 ∧ n = c.holdLow) ∨ (st = 3#4 ∧ n = c.release) ∨ (st = 7#4 ∧ n = c.settle) := by
  unfold delayOf at h
  split at h
  case h_4 => cases h
  all_goals
    cases h
    simp [← BitVec.toNat_inj, *]

/-- A state that counts is a wait state or a delay state. -/
theorem ticksOf_cases {c : Config} {st : StateCode} {n : Nat} (h : ticksOf c st = some n) :
    (∃ level, waitOf c st = some (level, n)) ∨ (waitOf c st = none ∧ delayOf c st = some n) := by
  unfold ticksOf at h
  split at h
  · next level m hw =>
    cases h
    exact .inl ⟨level, hw⟩
  · next hw => exact .inr ⟨hw, h⟩

theorem ticksOf_of_waitOf {c : Config} {st : StateCode} {level : Level} {n : Nat}
    (h : waitOf c st = some (level, n)) : ticksOf c st = some n := by
  rw [ticksOf, h]

theorem waitOf_eq_none_of_delayOf {c : Config} {st : StateCode} {n : Nat} (h : delayOf c st = some n) :
    waitOf c st = none := by
  rcases delayOf_cases h with ⟨rfl, -⟩ | ⟨rfl, -⟩ | ⟨rfl, -⟩ <;> rfl

theorem ticksOf_of_delayOf {c : Config} {st : StateCode} {n : Nat} (h : delayOf c st = some n) :
    ticksOf c st = some n := by
  rw [ticksOf, waitOf_eq_none_of_delayOf h, h]

/-- Every state code is IDLE, a wait state, a delay state, ASSEMBLE, VALIDATE or reserved. -/
theorem stateCode_kinds (c : Config) (st : StateCode) :
    st = 0#4 ∨ (∃ level n, waitOf c st = some (level, n)) ∨ (∃ n, delayOf c st = some n) ∨ st = 9#4 ∨ st = 10#4 ∨
      11 ≤ st.toNat := by
  rcases stateCode_cases st with rfl | rfl | rfl | rfl | rfl | rfl | rfl | rfl | rfl | rfl | rfl | h
  case inr.inr.inr.inr.inr.inr.inr.inr.inr.inr.inr => simp [h]
  all_goals simp [waitOf, delayOf]

/-- A bound or a length is one of the parameters. -/
theorem ticksOf_le_largest {c : Config} {st : StateCode} {n : Nat} (h : ticksOf c st = some n) : n ≤ c.largest := by
  obtain ⟨hIdle, hHold, hRelease, hAck, hStart, hSettle, hEnd⟩ := c.le_largest
  rcases ticksOf_cases h with ⟨level, hw⟩ | ⟨-, hd⟩
  · rcases waitOf_cases hw with ⟨-, -, rfl⟩ | ⟨-, -, rfl⟩ | ⟨-, -, rfl⟩ | ⟨-, -, rfl⟩ | ⟨-, -, rfl⟩ <;> assumption
  · rcases delayOf_cases hd with ⟨-, rfl⟩ | ⟨-, rfl⟩ | ⟨-, rfl⟩ <;> assumption

/-- With legal parameters a wait or a delay takes at least one tick (R7). -/
theorem ticksOf_pos {c : Config} (hl : c.legal = true) {st : StateCode} {n : Nat} (h : ticksOf c st = some n) :
    1 ≤ n := by
  obtain ⟨hIdle, hHold, hRelease, hAck, hStart, hSettle, hEnd, -⟩ := c.legal_iff.1 hl
  rcases ticksOf_cases h with ⟨level, hw⟩ | ⟨-, hd⟩
  · rcases waitOf_cases hw with ⟨-, -, rfl⟩ | ⟨-, -, rfl⟩ | ⟨-, -, rfl⟩ | ⟨-, -, rfl⟩ | ⟨-, -, rfl⟩ <;> assumption
  · rcases delayOf_cases hd with ⟨-, rfl⟩ | ⟨-, rfl⟩ | ⟨-, rfl⟩ <;> assumption

/-! ### What follows a wait that is met and a delay that is over -/

/-- The success action of the wait state `st` (R121, R124, R125, R140, R142). -/
def onMatch (st : StateCode) (s : State) : State :=
  match st.toNat with
  | 1 => goTo stDriveLow s
  | 4 => goTo stAckHigh s
  | 5 => goTo stBitStart s
  | 6 => goTo stBitSettle s
  | _ => nextBit s

/-- The last action of the delay state `st` (R122, R123, R141). -/
def onDelayEnd (st : StateCode) (s : State) : State :=
  match st.toNat with
  | 2 => { s with pull := true, st := stDriveHigh }
  | 3 => goTo stAckLow s
  | _ => goTo stBitEnd (memWriteBit s.idx s.inp.pinIn s)

/-- The tick of a wait state is the bounded wait of R40 with the state's own parts. -/
theorem afterTick_wait {s : State} (hr : s.inp.rst = false) {level : Level} {n : Nat}
    (hw : waitOf s.cfg s.st = some (level, n)) : afterTick s = waitLevel level n s.st (onMatch s.st) s := by
  rcases waitOf_cases hw with ⟨h, rfl, rfl⟩ | ⟨h, rfl, rfl⟩ | ⟨h, rfl, rfl⟩ | ⟨h, rfl, rfl⟩ | ⟨h, rfl, rfl⟩
  · rw [afterTick_waitIdle hr h, h]; rfl
  · rw [afterTick_ackLow hr h, h]; rfl
  · rw [afterTick_ackHigh hr h, h]; rfl
  · rw [afterTick_bitStart hr h, h]; rfl
  · rw [afterTick_bitEnd hr h, h]; rfl

/-- The tick of a delay state is the delay of R41 with the state's own parts. -/
theorem afterTick_delay {s : State} (hr : s.inp.rst = false) {n : Nat} (hd : delayOf s.cfg s.st = some n) :
    afterTick s = delayTicks n (onDelayEnd s.st) s := by
  rcases delayOf_cases hd with ⟨h, rfl⟩ | ⟨h, rfl⟩ | ⟨h, rfl⟩
  · rw [afterTick_driveLow hr h, h]; rfl
  · rw [afterTick_driveHigh hr h, h]; rfl
  · rw [afterTick_bitSettle hr h, h]; rfl

theorem nextBit_writes (s : State) : ∃ st idx, nextBit s = { s with st := st, idx := idx } := by
  rcases nextBit_cases s with ⟨-, h⟩ | ⟨-, h⟩ <;> exact ⟨_, _, h⟩

theorem memWriteBit_writes (i : BitIndex) (v : Bool) (s : State) : ∃ b, memWriteBit i v s = { s with bitbuf := b } := by
  unfold memWriteBit
  split <;> exact ⟨_, rfl⟩

/-- A wait that is met writes `st` and perhaps `idx`. -/
theorem onMatch_writes (c : StateCode) (s : State) : ∃ st idx, onMatch c s = { s with st := st, idx := idx } := by
  unfold onMatch
  split
  case h_5 => exact nextBit_writes s
  all_goals exact ⟨_, _, rfl⟩

/-- A delay that is over writes `st` and perhaps `pull` or `bitbuf`. -/
theorem onDelayEnd_writes (c : StateCode) (s : State) :
    ∃ st pull b, onDelayEnd c s = { s with st := st, pull := pull, bitbuf := b } := by
  unfold onDelayEnd
  split
  case h_3 =>
    obtain ⟨b, hb⟩ := memWriteBit_writes s.idx s.inp.pinIn s
    exact ⟨stBitEnd, s.pull, b, congrArg (goTo stBitEnd) hb⟩
  all_goals exact ⟨_, _, _, rfl⟩

section
variable (c : StateCode) (s : State)

@[simp] theorem onMatch_cnt : (onMatch c s).cnt = s.cnt := by obtain ⟨_, _, h⟩ := onMatch_writes c s; rw [h]
@[simp] theorem onMatch_bitbuf : (onMatch c s).bitbuf = s.bitbuf := by obtain ⟨_, _, h⟩ := onMatch_writes c s; rw [h]
@[simp] theorem onMatch_frame : (onMatch c s).frame = s.frame := by obtain ⟨_, _, h⟩ := onMatch_writes c s; rw [h]
@[simp] theorem onMatch_hum : (onMatch c s).hum = s.hum := by obtain ⟨_, _, h⟩ := onMatch_writes c s; rw [h]
@[simp] theorem onMatch_temp : (onMatch c s).temp = s.temp := by obtain ⟨_, _, h⟩ := onMatch_writes c s; rw [h]
@[simp] theorem onMatch_status : (onMatch c s).status = s.status := by obtain ⟨_, _, h⟩ := onMatch_writes c s; rw [h]
@[simp] theorem onMatch_pull : (onMatch c s).pull = s.pull := by obtain ⟨_, _, h⟩ := onMatch_writes c s; rw [h]
@[simp] theorem onMatch_cfg : (onMatch c s).cfg = s.cfg := by obtain ⟨_, _, h⟩ := onMatch_writes c s; rw [h]

@[simp] theorem onDelayEnd_cnt : (onDelayEnd c s).cnt = s.cnt := by obtain ⟨_, _, _, h⟩ := onDelayEnd_writes c s; rw [h]
@[simp] theorem onDelayEnd_idx : (onDelayEnd c s).idx = s.idx := by obtain ⟨_, _, _, h⟩ := onDelayEnd_writes c s; rw [h]
@[simp] theorem onDelayEnd_frame : (onDelayEnd c s).frame = s.frame := by obtain ⟨_, _, _, h⟩ := onDelayEnd_writes c s; rw [h]
@[simp] theorem onDelayEnd_hum : (onDelayEnd c s).hum = s.hum := by obtain ⟨_, _, _, h⟩ := onDelayEnd_writes c s; rw [h]
@[simp] theorem onDelayEnd_temp : (onDelayEnd c s).temp = s.temp := by obtain ⟨_, _, _, h⟩ := onDelayEnd_writes c s; rw [h]
@[simp] theorem onDelayEnd_status : (onDelayEnd c s).status = s.status := by obtain ⟨_, _, _, h⟩ := onDelayEnd_writes c s; rw [h]
@[simp] theorem onDelayEnd_cfg : (onDelayEnd c s).cfg = s.cfg := by obtain ⟨_, _, _, h⟩ := onDelayEnd_writes c s; rw [h]

end

/-! ### What one tick can do -/

/-- All that one tick can leave in the registers, each case with its guard (R42). -/
inductive TickEffect (s : State) : State → Prop
  | reset (hr : s.inp.rst = true) : TickEffect s (resetRegisters s)
  | rest (hr : s.inp.rst = false) (hst : s.st = 0#4) (hs : s.inp.start = false) : TickEffect s s
  | accept (hr : s.inp.rst = false) (hst : s.st = 0#4) (hs : s.inp.start = true) : TickEffect s (acceptTransaction s)
  | count {n : Nat} (hr : s.inp.rst = false) (hn : ticksOf s.cfg s.st = some n) (hc : s.cnt < n - 1) :
      TickEffect s { s with cnt := s.cnt + 1 }
  | timeout {level : Level} {n : Nat} (hr : s.inp.rst = false) (hw : waitOf s.cfg s.st = some (level, n))
      (hp : s.inp.pinIn ≠ level) (hc : n - 1 ≤ s.cnt) : TickEffect s (raiseTimeout s.st s)
  | matched {level : Level} {n : Nat} (hr : s.inp.rst = false) (hw : waitOf s.cfg s.st = some (level, n))
      (hp : s.inp.pinIn = level) : TickEffect s (onMatch s.st { s with cnt := 0 })
  | delayEnd {n : Nat} (hr : s.inp.rst = false) (hd : delayOf s.cfg s.st = some n) (hc : n - 1 ≤ s.cnt) :
      TickEffect s (onDelayEnd s.st { s with cnt := 0 })
  | assemble (hr : s.inp.rst = false) (hst : s.st = 9#4) :
      TickEffect s { s with frame := packFrame s.bitbuf, st := stValidate }
  | commit (hr : s.inp.rst = false) (hst : s.st = 10#4) (hv : frameValid s.frame = true) :
      TickEffect s (goTo stIdle (commitReading s))
  | reject (hr : s.inp.rst = false) (hst : s.st = 10#4) (hv : frameValid s.frame = false) :
      TickEffect s (goTo stIdle (raiseChecksumMismatch s))
  | reserved (hr : s.inp.rst = false) (hst : 11 ≤ s.st.toNat) : TickEffect s (leaveReserved s)

/-- The registers a tick leaves are one of these cases. -/
theorem tickEffect_afterTick (s : State) : TickEffect s (afterTick s) := by
  cases hr : s.inp.rst
  case true =>
    rw [afterTick_rst hr]
    exact .reset hr
  case false =>
    rcases stateCode_kinds s.cfg s.st with h | ⟨level, n, hw⟩ | ⟨n, hd⟩ | h | h | h
    · rw [afterTick_idle hr h]
      cases hs : s.inp.start
      · exact .rest hr h hs
      · exact .accept hr h hs
    · have hn := ticksOf_of_waitOf hw
      rw [afterTick_wait hr hw]
      rcases waitLevel_cases level n s.st (onMatch s.st) s (ticksOf_le_largest hn) with
        ⟨hp, h⟩ | ⟨hp, hc, h⟩ | ⟨-, hc, h⟩ <;> rw [h]
      · exact .matched hr hw hp
      · exact .timeout hr hw hp hc
      · exact .count hr hn hc
    · have hn := ticksOf_of_delayOf hd
      rw [afterTick_delay hr hd]
      rcases delayTicks_cases n (onDelayEnd s.st) s (ticksOf_le_largest hn) with ⟨hc, h⟩ | ⟨hc, h⟩ <;> rw [h]
      · exact .delayEnd hr hd hc
      · exact .count hr hn hc
    · rw [afterTick_assemble hr h]
      exact .assemble hr h
    · rw [afterTick_validate hr h]
      cases hv : frameValid s.frame
      · exact .reject hr h hv
      · exact .commit hr h hv
    · rw [afterTick_reserved hr h]
      exact .reserved hr h

/-- A step is one of these cases, after which the next tick begins. -/
theorem tickEffect_of_step {s t : State} (h : step s = .next t) : ∃ u, TickEffect s u ∧ t = nextTick u :=
  ⟨afterTick s, tickEffect_afterTick s, (step_next h).2⟩

/-! ### The invariant (R43) -/

namespace Inv

/-- The inputs, what is pending, the number of the tick and the driver are not in the invariant. -/
theorem nextTick {s : State} (h : Inv s) : Inv (nextTick s) := by
  unfold Machine.nextTick
  cases s.host <;> exact { h with }

/-- What is left of the invariant in IDLE. -/
theorem of_idle {s : State} (hst : s.st = 0#4) (hl : s.cfg.legal = true) (hi : s.idx.toNat ≤ 39) (hc : s.cnt = 0)
    (hv : s.status ∈ statusValues) : Inv s := by
  constructor
  case cntBound => intro n _; omega
  all_goals simp [*]

theorem resetRegisters {s : State} (hl : s.cfg.legal = true) : Inv (resetRegisters s) :=
  of_idle rfl hl (Nat.zero_le 39) rfl (by simp [statusValues])

theorem raiseTimeout {s : State} (h : Inv s) {level : Level} {n : Nat} (hw : waitOf s.cfg s.st = some (level, n)) :
    Inv (raiseTimeout s.st s) := by
  refine of_idle rfl h.legal h.idxRange rfl ?_
  rw [raiseTimeout_status]
  rcases waitOf_cases hw with ⟨hst, -⟩ | ⟨hst, -⟩ | ⟨hst, -⟩ | ⟨hst, -⟩ | ⟨hst, -⟩ <;> rw [hst] <;> decide

theorem acceptTransaction {s : State} (h : Inv s) : Inv (acceptTransaction s) := by
  constructor
  case legal => exact h.legal
  case statusValue => exact h.statusValue
  case cntBound => intro n _; exact Nat.zero_le _
  all_goals simp [clearedFrame]

theorem count {s : State} (h : Inv s) {n : Nat} (hn : ticksOf s.cfg s.st = some n) (hc : s.cnt < n - 1) :
    Inv { s with cnt := s.cnt + 1 } where
  __ := h
  cntRest hst := by
    rcases hst with hst | hst | hst <;> rw [hst] at hn <;> cases hn
  cntBound m hm := by
    cases hn.symm.trans hm
    exact hc

/-- A change to the state with the next code, up to BIT_SETTLE, with the counter cleared (R92). -/
theorem advance {s : State} (h : Inv s) {code : StateCode} (h1 : 1 ≤ s.st.toNat) (hc : code.toNat = s.st.toNat + 1)
    (h7 : code.toNat ≤ 7) (hp : code.toNat = 3 → s.pull = true) : Inv (goTo code { s with cnt := 0 }) where
  legal := h.legal
  stLegal := by simp; omega
  idxRange := h.idxRange
  idxInitiator _ h5 := h.idxInitiator h1 (by simp at h5; omega)
  idxComplete hst := by
    rcases hst with rfl | rfl <;> simp at h7
  cntRest _ := rfl
  cntBound _ _ := Nat.zero_le _
  frameZero _ _ := h.frameZero h1 (by omega)
  framePacked hst := by
    cases hst
    simp at h7
  bitsUnsampled _ _ i hi := by
    refine h.bitsUnsampled h1 (by omega) i (hi.imp_right fun ⟨hi, _⟩ => ⟨hi, fun hst => ?_⟩)
    rw [hst] at hc
    simp at hc
    omega
  statusValue := h.statusValue
  pullRequested h3 _ := by
    rcases Nat.eq_or_lt_of_le h3 with h3 | h3
    · exact hp h3.symm
    · exact h.pullRequested (by simp at h3; omega) (by omega)

/-- BIT_SETTLE's last tick writes element `idx`, the only one that BIT_END's row of the invariant frees (R141). -/
theorem sample {s : State} (h : Inv s) (hst : s.st = 7#4) (v : Level) :
    Inv (goTo stBitEnd (memWriteBit s.idx v { s with cnt := 0 })) := by
  constructor
  case bitsUnsampled =>
    intro _ _ i hi
    have hlt : s.idx.toNat < i.val := by simpa using hi
    have hold : s.bitbuf[i.val] = false := h.bitsUnsampled (by simp [hst]) (by simp [hst]) i (.inl hlt)
    change (memWriteBit s.idx v { s with cnt := 0 }).bitbuf[i.val] = false
    rw [memWriteBit_bitbuf _ _ _ _ i.isLt, if_neg (by omega)]
    exact hold
  case legal => simpa using h.legal
  case idxRange => simpa using h.idxRange
  case frameZero => simpa using h.frameZero (by simp [hst]) (by simp [hst])
  case statusValue => simpa using h.statusValue
  case pullRequested => simpa using h.pullRequested (by simp [hst]) (by simp [hst])
  all_goals simp

/-- BIT_END's success: after the last bit to ASSEMBLE, else to the next bit, whose element is still 0 (R142). -/
theorem nextBit {s : State} (h : Inv s) (hst : s.st = 8#4) : Inv (nextBit { s with cnt := 0 }) := by
  have hframe := h.frameZero (by simp [hst]) (by simp [hst])
  have hpull := h.pullRequested (by simp [hst]) (by simp [hst])
  have hrange := h.idxRange
  rcases nextBit_cases { s with cnt := 0 } with ⟨hi, hn⟩ | ⟨hi, hn⟩ <;> rw [hn] <;> dsimp only at hi
  · constructor
    case idxComplete => exact fun _ => BitVec.eq_of_toNat_eq (Nat.le_antisymm hrange hi)
    all_goals simp [hframe, hpull, h.legal, h.statusValue, hrange]
  · have hidx : (s.idx + 1#6).toNat = s.idx.toNat + 1 := by
      rw [BitVec.toNat_add]
      exact Nat.mod_eq_of_lt (by simp; omega)
    constructor
    case bitsUnsampled =>
      intro _ _ i hor
      refine h.bitsUnsampled (by simp [hst]) (by simp [hst]) i (.inl ?_)
      dsimp only at hor
      omega
    case idxRange => dsimp only; omega
    all_goals simp [hframe, hpull, h.legal, h.statusValue]

theorem assemble {s : State} (h : Inv s) (hst : s.st = 9#4) :
    Inv { s with frame := packFrame s.bitbuf, st := stValidate } := by
  constructor
  case idxComplete => exact fun _ => h.idxComplete (.inl hst)
  case cntRest => exact fun _ => h.cntRest (.inr (.inl hst))
  case pullRequested => exact fun _ _ => h.pullRequested (by simp [hst]) (by simp [hst])
  case legal => exact h.legal
  case idxRange => exact h.idxRange
  case statusValue => exact h.statusValue
  all_goals simp [ticksOf, waitOf, delayOf]

/-- The success action of each wait state (R121, R124, R125, R140, R142). -/
theorem onMatch {s : State} (h : Inv s) {level : Level} {n : Nat} (hw : waitOf s.cfg s.st = some (level, n)) :
    Inv (onMatch s.st { s with cnt := 0 }) := by
  rcases waitOf_cases hw with ⟨hst, -⟩ | ⟨hst, -⟩ | ⟨hst, -⟩ | ⟨hst, -⟩ | ⟨hst, -⟩
  · rw [hst]; exact h.advance (code := 2#4) (by simp [hst]) (by simp [hst]) (by simp) (by simp)
  · rw [hst]; exact h.advance (code := 5#4) (by simp [hst]) (by simp [hst]) (by simp) (by simp)
  · rw [hst]; exact h.advance (code := 6#4) (by simp [hst]) (by simp [hst]) (by simp) (by simp)
  · rw [hst]; exact h.advance (code := 7#4) (by simp [hst]) (by simp [hst]) (by simp) (by simp)
  · rw [hst]; exact h.nextBit hst

/-- The last action of each delay state (R122, R123, R141). -/
theorem onDelayEnd {s : State} (h : Inv s) {n : Nat} (hd : delayOf s.cfg s.st = some n) :
    Inv (onDelayEnd s.st { s with cnt := 0 }) := by
  rcases delayOf_cases hd with ⟨hst, -⟩ | ⟨hst, -⟩ | ⟨hst, -⟩
  · have hpull : Inv { s with pull := true } := { h with pullRequested := fun _ _ => rfl }
    rw [hst]
    exact hpull.advance (code := 3#4) (by simp [hst]) (by simp [hst]) (by simp) (fun _ => rfl)
  · rw [hst]
    exact h.advance (code := 4#4) (by simp [hst]) (by simp [hst]) (by simp) (by simp)
  · have hend : Machine.onDelayEnd s.st = Machine.onDelayEnd 7#4 := congrArg _ hst
    rw [hend]
    exact h.sample hst s.inp.pinIn

/-- Every case of a tick keeps the invariant. -/
theorem tickEffect {s u : State} (h : Inv s) (hu : TickEffect s u) : Inv u := by
  cases hu with
  | reset hr => exact .resetRegisters h.legal
  | rest hr hst hs => exact h
  | accept hr hst hs => exact h.acceptTransaction
  | count hr hn hc => exact h.count hn hc
  | timeout hr hw hp hc => exact h.raiseTimeout hw
  | matched hr hw hp => exact h.onMatch hw
  | delayEnd hr hd hc => exact h.onDelayEnd hd
  | assemble hr hst => exact h.assemble hst
  | commit hr hst hv =>
    exact of_idle rfl h.legal h.idxRange (h.cntRest (.inr (.inr hst))) (by simp [statusValues])
  | reject hr hst hv =>
    exact of_idle rfl h.legal h.idxRange (h.cntRest (.inr (.inr hst))) (by simp [statusValues])
  | reserved hr hst => exact absurd h.stLegal (by omega)

end Inv

/-- Settles O44: the launch state holds the registers of a reset. -/
theorem invariantHoldsAtReset : Obligations.InvariantHoldsAtReset :=
  Inv.resetRegisters (s := State.reset) (by decide)

/-- Settles O45: each case of a tick keeps the invariant, and so does the beginning of the next tick. -/
theorem everyStepKeepsTheInvariant : Obligations.EveryStepKeepsTheInvariant := by
  unfold Obligations.EveryStepKeepsTheInvariant
  intro s t h hst
  obtain ⟨u, hu, rfl⟩ := tickEffect_of_step hst
  exact (h.tickEffect hu).nextTick

end Sys2Proof.Machine

/-! ## Proofs for spec/10_state.md: the frame of each instruction, and what one step does to the outcome registers -/

namespace Sys2Proof.Machine

/-! ### What each instruction may write (R20) -/

/-- A wait whose success only transfers control writes `st`, `cnt` and `status` at most (R40). -/
theorem waitLevel_goTo_writes (level : Level) (bound : Nat) (self code : StateCode) (s : State) :
    ∃ st cnt status, waitLevel level bound self (goTo code) s = { s with st := st, cnt := cnt, status := status } := by
  unfold waitLevel
  split
  · exact ⟨code, 0, s.status, rfl⟩
  · split
    · exact ⟨_, _, _, rfl⟩
    · exact ⟨s.st, _, s.status, rfl⟩

/-- BIT_END's wait may write `idx` too (R142). -/
theorem waitLevel_nextBit_writes (level : Level) (bound : Nat) (self : StateCode) (s : State) :
    ∃ st cnt idx status,
      waitLevel level bound self nextBit s = { s with st := st, cnt := cnt, idx := idx, status := status } := by
  unfold waitLevel
  split
  · obtain ⟨st, idx, h⟩ := nextBit_writes { s with cnt := 0 }
    exact ⟨st, 0, idx, s.status, h⟩
  · split
    · exact ⟨_, _, s.idx, _, rfl⟩
    · exact ⟨s.st, _, s.idx, s.status, rfl⟩

/-- A delay runs its last action with the counter cleared, or writes `cnt` alone (R41). -/
theorem delayTicks_writes (length : Nat) (next : State → State) (s : State) :
    delayTicks length next s = next { s with cnt := 0 } ∨ ∃ cnt, delayTicks length next s = { s with cnt := cnt } := by
  unfold delayTicks
  split
  · exact .inl rfl
  · exact .inr ⟨_, rfl⟩

/-- R20's column "written by", with the clears of R93, R120, R203 and R37, for a row `j` that leaves `t` from `s`. -/
def WrittenOnlyBy (j : Instr) (s t : State) : Prop :=
  (t.cnt ≠ s.cnt → j ∈ [Instr.idle, .waitIdle, .driveLow, .driveHigh, .ackLow, .ackHigh, .bitStart, .bitSettle, .bitEnd,
    .reserved11, .reserved12, .reserved13, .reserved14, .reserved15, .rst]) ∧
  (t.idx ≠ s.idx → j ∈ [Instr.idle, .bitEnd, .rst]) ∧
  (t.bitbuf ≠ s.bitbuf → j ∈ [Instr.idle, .bitSettle, .rst]) ∧
  (t.frame ≠ s.frame → j ∈ [Instr.idle, .assemble, .rst]) ∧
  (t.hum ≠ s.hum ∨ t.temp ≠ s.temp → j ∈ [Instr.validate, .rst]) ∧
  (t.status ≠ s.status → j ∈ [Instr.waitIdle, .ackLow, .ackHigh, .bitStart, .bitEnd, .validate, .rst]) ∧
  (t.pull ≠ s.pull → j ∈ [Instr.driveLow, .rst]) ∧
  t.inp = s.inp ∧ t.cfg = s.cfg ∧ t.pending = s.pending ∧ t.tail = s.tail ∧ t.host = s.host ∧ t.tick = s.tick ∧
  t.driver = s.driver

/-- The four waits whose success only transfers control keep to the column (R121, R124, R125, R140). -/
theorem writtenOnlyBy_waitLevel_goTo {j : Instr} (hj : j ∈ [Instr.waitIdle, .ackLow, .ackHigh, .bitStart])
    (level : Level) (bound : Nat) (self code : StateCode) (s : State) :
    WrittenOnlyBy j s (waitLevel level bound self (goTo code) s) := by
  obtain ⟨st, cnt, status, h⟩ := waitLevel_goTo_writes level bound self code s
  rw [h]
  fin_cases hj <;> simp [WrittenOnlyBy]

theorem exec_writtenOnlyBy {j : Instr} (hj : j ≠ .start) {s t : State} (h : exec j s = .next t) :
    WrittenOnlyBy j s t := by
  cases j with
  | start => exact absurd rfl hj
  | idle =>
    cases h
    split <;> simp [WrittenOnlyBy]
  | waitIdle | ackLow | ackHigh | bitStart =>
    cases h
    exact writtenOnlyBy_waitLevel_goTo (by decide) _ _ _ _ s
  | bitEnd =>
    cases h
    obtain ⟨st, cnt, idx, status, hw⟩ := waitLevel_nextBit_writes true s.cfg.tBitEnd stBitEnd s
    simp [WrittenOnlyBy, hw]
  | driveLow =>
    cases h
    rcases delayTicks_writes s.cfg.holdLow (fun u => { u with pull := true, st := stDriveHigh }) s with
      hw | ⟨cnt, hw⟩ <;> simp [WrittenOnlyBy, hw]
  | driveHigh =>
    cases h
    rcases delayTicks_writes s.cfg.release (goTo stAckLow) s with hw | ⟨cnt, hw⟩ <;> simp [WrittenOnlyBy, hw]
  | bitSettle =>
    cases h
    rcases delayTicks_writes s.cfg.settle (fun u => goTo stBitEnd (memWriteBit u.idx u.inp.pinIn u)) s with
      hw | ⟨cnt, hw⟩ <;> simp [WrittenOnlyBy, hw]
  | validate =>
    cases h
    split <;> simp [WrittenOnlyBy]
  | assemble | reserved11 | reserved12 | reserved13 | reserved14 | reserved15 | rst =>
    cases h
    simp [WrittenOnlyBy]

theorem decodeState_ne_start (c : StateCode) : decodeState c ≠ .start := by
  revert c
  decide

/-- START outside IDLE is the row of its state (R126, log 9). -/
theorem exec_start_busy {s : State} (h : s.st ≠ 0#4) : exec .start s = exec (decodeState s.st) s :=
  (if_neg h).trans (exec_decodeState s).symm

/-- START in IDLE accepts a transaction (R120). -/
theorem exec_start_idle {s : State} (h : s.st = 0#4) : exec .start s = .next (acceptTransaction s) :=
  if_pos h

/-- Settles O24: instruction by instruction, and START by the row it stands for. -/
theorem eachRegisterChangesOnlyByItsWriters : Obligations.EachRegisterChangesOnlyByItsWriters := by
  unfold Obligations.EachRegisterChangesOnlyByItsWriters
  intro i s t h j
  change WrittenOnlyBy j s t
  by_cases hi : i = .start
  · subst hi
    by_cases hst : s.st = 0#4
    · have hj : j = .idle := by simp [j, hst]
      rw [exec_start_idle hst] at h
      cases h
      simp [hj, WrittenOnlyBy]
    · have hj : j = decodeState s.st := by simp [j, hst]
      rw [hj]
      exact exec_writtenOnlyBy (decodeState_ne_start _) (exec_start_busy hst ▸ h)
  · have hj : j = i := if_neg hi
    rw [hj]
    exact exec_writtenOnlyBy hi h

/-! ### The dispatch, the reset and the outputs -/

/-- Settles O4: a reset tick runs RST, any other the state's micro-operation, with or without START. -/
theorem stepRunsTheDecodedInstruction : Obligations.StepRunsTheDecodedInstruction := by
  unfold Obligations.StepRunsTheDecodedInstruction
  intro s hl
  rw [step_eq s hl]
  constructor
  · intro hr t ht
    cases ht
    rw [afterTick_rst hr]
  · intro hr i hi t ht
    cases hi
    rw [exec_decodeState, execState_eq s hr] at ht
    cases ht
    rfl

/-- Settles O12: the reset's row by `afterTick_rst`, the launch state by evaluation. -/
theorem resetStateHoldsTheTabulatedValues : Obligations.ResetStateHoldsTheTabulatedValues := by
  unfold Obligations.ResetStateHoldsTheTabulatedValues
  intro r
  refine ⟨fun s hl hr => ?_, rfl, rfl, rfl, ?_, ?_, rfl, rfl, rfl, rfl, ?_, rfl⟩
  · rw [step_eq s hl, afterTick_rst hr]
    rfl
  · decide
  · decide
  · decide

/-- Settles O28: each output port is defined as its function of the registers, which a change of the inputs keeps. -/
theorem outputsDependOnRegistersOnly : Obligations.OutputsDependOnRegistersOnly := by
  unfold Obligations.OutputsDependOnRegistersOnly
  intro s i
  have hbusy : busy s = true ↔ s.st ≠ 0#4 := decide_eq_true_iff
  have hoe : pinOe s = true ↔ s.st = 2#4 ∨ s.st = 3#4 := by simp [pinOe]
  have hout : pinOut s = true ↔ s.st = 3#4 := decide_eq_true_iff
  exact ⟨rfl, hbusy, hoe, hout, rfl, rfl, rfl, rfl, rfl, rfl, rfl, rfl, rfl⟩

/-! ### The outcome registers along one step -/

@[simp] theorem busy_nextTick (s : State) : busy (nextTick s) = busy s := by simp [busy]

/-- Settles O25: of the cases of a tick without reset only VALIDATE's commit writes the cached reading. -/
theorem cacheChangesOnlyAtMatchingValidate : Obligations.CacheChangesOnlyAtMatchingValidate := by
  unfold Obligations.CacheChangesOnlyAtMatchingValidate
  intro s t h hrst
  obtain ⟨u, hu, rfl⟩ := tickEffect_of_step h
  cases hu with
  | reset hr => simp [hrst] at hr
  | commit hr hst hv =>
    right
    simpa [hst] using (frameValid_iff s.frame).1 hv
  | _ => left; simp

/-- Settles O26: of the cases of a tick without reset only a timeout and VALIDATE write `status`, and both end in IDLE. -/
theorem statusChangesOnlyWhenBusyFalls : Obligations.StatusChangesOnlyWhenBusyFalls := by
  unfold Obligations.StatusChangesOnlyWhenBusyFalls
  intro s t h hrst hne
  obtain ⟨u, hu, rfl⟩ := tickEffect_of_step h
  cases hu with
  | reset hr => simp [hrst] at hr
  | timeout hr hw hp hc =>
    have hmem : s.st ∈ [1#4, 4#4, 5#4, 6#4, 8#4] := by
      rcases waitOf_cases hw with ⟨hst, -⟩ | ⟨hst, -⟩ | ⟨hst, -⟩ | ⟨hst, -⟩ | ⟨hst, -⟩ <;> rw [hst] <;> decide
    have hbusy : s.st ≠ 0#4 := fun hst => by simp [hst] at hmem
    refine ⟨by simpa [busy] using hbusy, by simp [busy], .inl ⟨?_, hmem⟩⟩
    rw [nextTick_status, raiseTimeout_status, statusWord_toNat]
    rfl
  | commit hr hst hv => exact ⟨by simp [busy, hst], by simp [busy], .inr ⟨hst, .inl (by simp)⟩⟩
  | reject hr hst hv => exact ⟨by simp [busy, hst], by simp [busy], .inr ⟨hst, .inr (by simp)⟩⟩
  | _ => simp at hne

/-- A delay's last action keeps a set pull-up request, and sets one only in going from DRIVE_LOW to DRIVE_HIGH. -/
theorem onDelayEnd_pull {c : Config} {s : State} {n : Nat} (hd : delayOf c s.st = some n) (u : State) :
    (onDelayEnd s.st u).pull = u.pull ∨
      (s.st = 2#4 ∧ (onDelayEnd s.st u).st = 3#4 ∧ (onDelayEnd s.st u).pull = true) := by
  rcases delayOf_cases hd with ⟨hst, -⟩ | ⟨hst, -⟩ | ⟨hst, -⟩ <;> rw [hst]
  · exact .inr ⟨rfl, rfl, rfl⟩
  · exact .inl rfl
  · exact .inl (memWriteBit_pull u u.idx u.inp.pinIn)

/-- Settles O27: of the cases of a tick without reset only DRIVE_LOW's last one writes `pull`. -/
theorem pullUpStaysUntilReset : Obligations.PullUpStaysUntilReset := by
  unfold Obligations.PullUpStaysUntilReset
  intro s t h hrst
  obtain ⟨u, hu, rfl⟩ := tickEffect_of_step h
  cases hu with
  | reset hr => simp [hrst] at hr
  | delayEnd hr hd hc =>
    rw [nextTick_pull, nextTick_st]
    rcases onDelayEnd_pull hd { s with cnt := 0 } with hpull | ⟨hst, hend, hpull⟩
    · rw [hpull]
      exact ⟨id, .inl⟩
    · exact ⟨fun _ => hpull, fun _ => .inr ⟨hst, hend⟩⟩
  | _ => exact ⟨by simp, fun hpull => .inl (by simpa using hpull)⟩

end Sys2Proof.Machine

/-! ## Proofs for spec/10_state.md: what the block does not read -/

namespace Sys2Proof.Machine

/-! ### `hum`, `temp`, `status` and `pull` (R26 to R29) -/

/-- The driver without its last reply, into which alone it copies the cached reading (R185, R186). -/
def Driver.hideReply (d : Driver) : Driver := { d with reply := none }

/-- The state without the four registers that the block only writes, and without the driver's last reply. -/
def hideOutcome (s : State) : State :=
  { s with hum := 0#8, temp := 0#8, status := 0#6, pull := false, driver := s.driver.hideReply }

/-- A bounded wait reads nothing that `hideOutcome` hides, if what follows it does not. -/
theorem hideOutcome_waitLevel {next : State → State} (hn : ∀ u, hideOutcome (next (hideOutcome u)) = hideOutcome (next u))
    (level : Level) (bound : Nat) (self : StateCode) (s : State) :
    hideOutcome (waitLevel level bound self next (hideOutcome s)) = hideOutcome (waitLevel level bound self next s) := by
  unfold waitLevel
  by_cases hp : s.inp.pinIn = level
  · rw [if_pos hp, if_pos (show (hideOutcome s).inp.pinIn = level from hp)]
    exact hn { s with cnt := 0 }
  · rw [if_neg hp, if_neg (show ¬ (hideOutcome s).inp.pinIn = level from hp)]
    by_cases hc : bound - 1 ≤ s.cnt
    · rw [if_pos hc, if_pos (show bound - 1 ≤ (hideOutcome s).cnt from hc)]
      rfl
    · rw [if_neg hc, if_neg (show ¬ bound - 1 ≤ (hideOutcome s).cnt from hc)]
      rfl

/-- A fixed delay reads nothing that `hideOutcome` hides, if what follows it does not. -/
theorem hideOutcome_delayTicks {next : State → State} (hn : ∀ u, hideOutcome (next (hideOutcome u)) = hideOutcome (next u))
    (length : Nat) (s : State) :
    hideOutcome (delayTicks length next (hideOutcome s)) = hideOutcome (delayTicks length next s) := by
  unfold delayTicks
  by_cases hc : length - 1 ≤ s.cnt
  · rw [if_pos hc, if_pos (show length - 1 ≤ (hideOutcome s).cnt from hc)]
    exact hn { s with cnt := 0 }
  · rw [if_neg hc, if_neg (show ¬ length - 1 ≤ (hideOutcome s).cnt from hc)]
    rfl

theorem hideOutcome_nextBit (s : State) : hideOutcome (nextBit (hideOutcome s)) = hideOutcome (nextBit s) := by
  unfold nextBit
  by_cases hi : 39 ≤ s.idx.toNat
  · rw [if_pos hi, if_pos (show 39 ≤ (hideOutcome s).idx.toNat from hi)]
    rfl
  · rw [if_neg hi, if_neg (show ¬ 39 ≤ (hideOutcome s).idx.toNat from hi)]
    rfl

theorem hideOutcome_memWriteBit (i : BitIndex) (v : Bool) (s : State) :
    hideOutcome (memWriteBit i v (hideOutcome s)) = hideOutcome (memWriteBit i v s) := by
  unfold memWriteBit
  split <;> rfl

theorem hideOutcome_onMatch (c : StateCode) (s : State) :
    hideOutcome (onMatch c (hideOutcome s)) = hideOutcome (onMatch c s) := by
  unfold onMatch
  split
  case h_5 => exact hideOutcome_nextBit s
  all_goals rfl

theorem hideOutcome_onDelayEnd (c : StateCode) (s : State) :
    hideOutcome (onDelayEnd c (hideOutcome s)) = hideOutcome (onDelayEnd c s) := by
  unfold onDelayEnd
  split
  case h_3 => exact congrArg (goTo stBitEnd) (hideOutcome_memWriteBit s.idx s.inp.pinIn s)
  all_goals rfl

/-- VALIDATE decides by `frame` alone, and both branches leave the same but for the hidden registers (R170). -/
theorem hideOutcome_validate (s : State) :
    hideOutcome (goTo stIdle (if frameValid s.frame then commitReading s else raiseChecksumMismatch s)) =
      hideOutcome (goTo stIdle s) := by
  split <;> rfl

/-- No tick reads a hidden register. -/
theorem hideOutcome_afterTick (s : State) : hideOutcome (afterTick (hideOutcome s)) = hideOutcome (afterTick s) := by
  cases hr : s.inp.rst
  case true =>
    rw [afterTick_rst hr, afterTick_rst (s := hideOutcome s) hr]
    rfl
  case false =>
    have hr' : (hideOutcome s).inp.rst = false := hr
    rcases stateCode_kinds s.cfg s.st with h | ⟨level, n, hw⟩ | ⟨n, hd⟩ | h | h | h
    · rw [afterTick_idle hr h, afterTick_idle hr' h]
      change hideOutcome (if s.inp.start then _ else _) = _
      split <;> rfl
    · rw [afterTick_wait hr hw, afterTick_wait hr' hw]
      exact hideOutcome_waitLevel (hideOutcome_onMatch s.st) level n s.st s
    · rw [afterTick_delay hr hd, afterTick_delay hr' hd]
      exact hideOutcome_delayTicks (hideOutcome_onDelayEnd s.st) n s
    · rw [afterTick_assemble hr h, afterTick_assemble hr' h]
      rfl
    · rw [afterTick_validate hr h, afterTick_validate hr' h, hideOutcome_validate, hideOutcome_validate]
      rfl
    · rw [afterTick_reserved hr h, afterTick_reserved hr' h]
      rfl

/-- A driver's act without its last reply. -/
def DriverAct.hideReply (a : DriverAct) : DriverAct := { a with driver := a.driver.hideReply }

theorem beginTransaction_hideReply (blockBusy : Bool) (op : DriverOp) (d : Driver) :
    (beginTransaction blockBusy op d.hideReply).hideReply = (beginTransaction blockBusy op d).hideReply := by
  cases blockBusy <;> rfl

/-- A call reads the cached reading only for its reply (R182, R185, R186). -/
theorem beginCall_hideReply (elapsed : Timestamp → Timestamp → Seconds) (minPeriod : Seconds) (now : Timestamp)
    (blockBusy : Bool) (hum temp hum' temp' : Byte) (op : DriverOp) (d : Driver) :
    (beginCall elapsed minPeriod now blockBusy hum' temp' op d.hideReply).hideReply =
      (beginCall elapsed minPeriod now blockBusy hum temp op d).hideReply := by
  unfold beginCall
  by_cases hm : mayProceed elapsed minPeriod d.lastTs now
  · rw [if_pos hm, if_pos (show mayProceed elapsed minPeriod d.hideReply.lastTs now from hm)]
    exact beginTransaction_hideReply blockBusy op { d with clockReads := d.clockReads + 1, lastTs := some now }
  · rw [if_neg hm, if_neg (show ¬ mayProceed elapsed minPeriod d.hideReply.lastTs now from hm)]
    rfl

/-- The host driver reads the cached reading and its last reply only for its next reply. -/
theorem driverAct_hideReply (elapsed : Timestamp → Timestamp → Seconds) (minPeriod : Seconds) (now : Timestamp)
    (blockBusy : Bool) (hum temp hum' temp' : Byte) (call : Option DriverOp) (d : Driver) :
    (driverAct elapsed minPeriod now blockBusy hum' temp' call d.hideReply).hideReply =
      (driverAct elapsed minPeriod now blockBusy hum temp call d).hideReply := by
  obtain ⟨lastTs, phase, calls, reply, clockReads⟩ := d
  cases phase with
  | ready =>
    cases call with
    | none => rfl
    | some op =>
      exact beginCall_hideReply elapsed minPeriod now blockBusy hum temp hum' temp' op
        ⟨lastTs, .ready, calls.tail, reply, clockReads⟩
  | starting op => exact beginTransaction_hideReply blockBusy op ⟨lastTs, .starting op, calls, reply, clockReads⟩
  | waiting op => cases blockBusy <;> rfl

/-- Neither the stimulus nor the host driver reads a hidden register for what it does next. -/
theorem hideOutcome_nextTick (s : State) : hideOutcome (nextTick (hideOutcome s)) = hideOutcome (nextTick s) := by
  have hact : (driverStep (hideOutcome s)).hideReply = (driverStep s).hideReply :=
    driverAct_hideReply Config.elapsedSeconds s.cfg.minPeriodS (Config.now s.driver.clockReads) (busy s) s.hum s.temp
      0#8 0#8 (nextCall s) s.driver
  have hstart : (driverStep (hideOutcome s)).start = (driverStep s).start := (congrArg DriverAct.start hact :)
  have hdriver : (driverStep (hideOutcome s)).driver.hideReply = (driverStep s).driver.hideReply :=
    (congrArg DriverAct.driver hact :)
  have hhost : (hideOutcome s).host = s.host := rfl
  unfold nextTick
  rw [hhost]
  cases s.host with
  | free => rfl
  | driver =>
    generalize driverStep (hideOutcome s) = act at hstart hdriver ⊢
    simp only [hideOutcome, hstart, hdriver]
    rfl

/-- States that differ in hidden registers only stay so over one tick. -/
theorem hideOutcome_tick {s s' : State} (h : hideOutcome s' = hideOutcome s) :
    hideOutcome (nextTick (afterTick s')) = hideOutcome (nextTick (afterTick s)) := by
  rw [← hideOutcome_nextTick, ← hideOutcome_afterTick, h, hideOutcome_afterTick, hideOutcome_nextTick]

/-- Runs from states that differ in hidden registers only end in such states. -/
theorem hideOutcome_runTicks {k : Nat} {s s' t : State} (h : hideOutcome s' = hideOutcome s)
    (hrun : runTicks k s = .next t) : ∃ t', runTicks k s' = .next t' ∧ hideOutcome t' = hideOutcome t := by
  induction k generalizing s s' with
  | zero =>
    cases hrun
    exact ⟨s', rfl, h⟩
  | succ k ih =>
    have hcfg : s'.cfg = s.cfg := (congrArg State.cfg h :)
    cases hl : s.cfg.legal
    case false =>
      rw [runTicks, step_illegal s hl] at hrun
      cases hrun
    case true =>
      rw [runTicks_succ k s hl] at hrun
      rw [runTicks_succ k s' (hcfg ▸ hl)]
      exact ih (hideOutcome_tick h) hrun

/-- Settles O31: the four registers are hidden by `hideOutcome`, which every tick and so every run respects. -/
theorem cacheStatusAndPullAreNeverRead : Obligations.CacheStatusAndPullAreNeverRead := by
  unfold Obligations.CacheStatusAndPullAreNeverRead
  intro s t k hum temp status pull hrun
  obtain ⟨t', hrun', h⟩ := hideOutcome_runTicks (s := s)
    (s' := { s with hum := hum, temp := temp, status := status, pull := pull }) rfl hrun
  exact ⟨t', hrun', (congrArg State.st h :), (congrArg State.cnt h :), (congrArg State.idx h :),
    (congrArg State.bitbuf h :), (congrArg State.frame h :), (congrArg State.inp h :), (congrArg busy h :),
    (congrArg pinOe h :), (congrArg pinOut h :)⟩

/-! ### `pin_in` (R32) -/

/-- The state with another level on `pin_in`. -/
def withPin (p : Level) (s : State) : State := { s with inp := { s.inp with pinIn := p } }

/-- A tick that is a reset, or in no wait state and not BIT_SETTLE's last, does not read `pin_in`. -/
theorem afterTick_withPin {s : State} (p : Level)
    (h : s.inp.rst = true ∨ (s.st ∉ [1#4, 4#4, 5#4, 6#4, 8#4] ∧ (s.st = 7#4 → s.cnt < s.cfg.settle - 1))) :
    afterTick (withPin p s) = withPin p (afterTick s) := by
  cases hr : s.inp.rst
  case true =>
    rw [afterTick_rst hr, afterTick_rst (s := withPin p s) hr]
    rfl
  case false =>
    obtain ⟨hwait, hsettle⟩ := h.resolve_left (by simp [hr])
    have hr' : (withPin p s).inp.rst = false := hr
    rcases stateCode_kinds s.cfg s.st with h | ⟨level, n, hw⟩ | ⟨n, hd⟩ | h | h | h
    · rw [afterTick_idle hr h, afterTick_idle hr' h]
      change (if s.inp.start then _ else _) = _
      split <;> rfl
    · rcases waitOf_cases hw with ⟨hst, -⟩ | ⟨hst, -⟩ | ⟨hst, -⟩ | ⟨hst, -⟩ | ⟨hst, -⟩ <;> simp [hst] at hwait
    · rw [afterTick_delay hr hd, afterTick_delay hr' hd]
      unfold delayTicks
      by_cases hc : n - 1 ≤ s.cnt
      · rw [if_pos hc, if_pos (show n - 1 ≤ (withPin p s).cnt from hc)]
        rcases delayOf_cases hd with ⟨hst, -⟩ | ⟨hst, -⟩ | ⟨hst, rfl⟩
        · rw [hst, show (withPin p s).st = 2#4 from hst]
          rfl
        · rw [hst, show (withPin p s).st = 3#4 from hst]
          rfl
        · exact absurd (hsettle hst) (Nat.not_lt.2 hc)
      · rw [if_neg hc, if_neg (show ¬ n - 1 ≤ (withPin p s).cnt from hc)]
        rfl
    · rw [afterTick_assemble hr h, afterTick_assemble hr' h]
      rfl
    · rw [afterTick_validate hr h, afterTick_validate hr' h]
      change goTo stIdle (if frameValid s.frame then _ else _) = _
      split <;> rfl
    · rw [afterTick_reserved hr h, afterTick_reserved hr' h]
      rfl

/-- Settles O32: the tick's instruction leaves `afterTick`, which does not read `pin_in` there. -/
theorem pinInIsReadOnlyByWaitsAndTheSample : Obligations.PinInIsReadOnlyByWaitsAndTheSample := by
  unfold Obligations.PinInIsReadOnlyByWaitsAndTheSample
  intro s p h t ht
  rw [exec_fetch] at ht ⊢
  cases ht
  exact congrArg _ (afterTick_withPin p h)

end Sys2Proof.Machine

/-! ## Proofs for spec/10_state.md: runs of the waits, of the host pulse and of a whole transaction -/

namespace Sys2Proof.Machine

/-! ### Runs tick by tick -/

/-- A run of `k + 1` ticks is one of `k` and then one tick. -/
theorem runTicks_snoc {k : Nat} {s t : State} (hl : s.cfg.legal = true) (h : runTicks k s = .next t) :
    runTicks (k + 1) s = .next (nextTick (afterTick t)) := by
  rw [runTicks_add hl h, runTicks_succ 0 t (by rw [runTicks_cfg hl h]; exact hl), runTicks_zero]

/-- The inputs of a run from its tick `m` on. -/
theorem InputsAlong.drop {s t : State} {m n : Nat} {P : Inputs → Prop} (hl : s.cfg.legal = true)
    (ht : runTicks m s = .next t) (h : InputsAlong s (m + n) fun _ => P) : InputsAlong t n fun _ => P := by
  intro k hk u hu
  refine h (m + k) (by omega) u ?_
  rw [runTicks_add hl ht, hu]

/-- The state with the inputs, what is pending, the number of the tick and the driver of another one. -/
def withEnvironment (s e : State) : State :=
  { s with inp := e.inp, pending := e.pending, tick := e.tick, driver := e.driver }

/-- The next tick has the registers that this one left. -/
theorem nextTick_eq_withEnvironment (s : State) : nextTick s = withEnvironment s (nextTick s) := by
  unfold nextTick
  cases hh : s.host <;> simp [withEnvironment, hh]

/-! ### A wait or a delay, from its first tick to its last -/

/-- The inputs of a tick let the wait or delay state of `s` count on: no reset, and a wait's level is not there. -/
def CountsOn (s : State) (i : Inputs) : Prop :=
  i.rst = false ∧ ∀ level n, waitOf s.cfg s.st = some (level, n) → i.pinIn ≠ level

theorem countsOn_of_waitOf {s : State} {level : Level} {n : Nat} (hw : waitOf s.cfg s.st = some (level, n)) {i : Inputs}
    (hr : i.rst = false) (hp : i.pinIn ≠ level) : CountsOn s i := by
  refine ⟨hr, fun level' n' hw' => ?_⟩
  cases hw.symm.trans hw'
  exact hp

theorem countsOn_of_delayOf {s : State} {n : Nat} (hd : delayOf s.cfg s.st = some n) {i : Inputs} (hr : i.rst = false) :
    CountsOn s i := by
  refine ⟨hr, fun level' n' hw => ?_⟩
  rw [waitOf_eq_none_of_delayOf hd] at hw
  cases hw

theorem afterTick_count {s : State} (hi : CountsOn s s.inp) {n : Nat} (hn : ticksOf s.cfg s.st = some n)
    (hc : s.cnt < n - 1) : afterTick s = { s with cnt := s.cnt + 1 } := by
  obtain ⟨hr, hp⟩ := hi
  rcases ticksOf_cases hn with ⟨level, hw⟩ | ⟨-, hd⟩
  · rw [afterTick_wait hr hw, waitLevel, if_neg (hp level n hw), if_neg (Nat.not_le.2 hc),
      countUp_eq (ticksOf_le_largest hn) hc]
  · rw [afterTick_delay hr hd, delayTicks, if_neg (Nat.not_le.2 hc), countUp_eq (ticksOf_le_largest hn) hc]

theorem afterTick_timeout {s : State} (hr : s.inp.rst = false) {level : Level} {n : Nat}
    (hw : waitOf s.cfg s.st = some (level, n)) (hp : s.inp.pinIn ≠ level) (hc : n - 1 ≤ s.cnt) :
    afterTick s = raiseTimeout s.st s := by
  rw [afterTick_wait hr hw, waitLevel, if_neg hp, if_pos hc]

theorem afterTick_matched {s : State} (hr : s.inp.rst = false) {level : Level} {n : Nat}
    (hw : waitOf s.cfg s.st = some (level, n)) (hp : s.inp.pinIn = level) :
    afterTick s = onMatch s.st { s with cnt := 0 } := by
  rw [afterTick_wait hr hw, waitLevel, if_pos hp]

theorem afterTick_delayEnd {s : State} (hr : s.inp.rst = false) {n : Nat} (hd : delayOf s.cfg s.st = some n)
    (hc : n - 1 ≤ s.cnt) : afterTick s = onDelayEnd s.st { s with cnt := 0 } := by
  rw [afterTick_delay hr hd, delayTicks, if_pos hc]

/-- For less than its number of ticks a wait or delay state counts and nothing but `cnt` changes (R40, R41). -/
theorem runTicks_counting {s : State} {n m : Nat} (hl : s.cfg.legal = true) (hn : ticksOf s.cfg s.st = some n)
    (hc : s.cnt = 0) (hi : ∀ k, k < m → ∀ t, runTicks k s = .next t → CountsOn s t.inp) {k : Nat} (hkm : k ≤ m)
    (hkn : k < n) : ∃ e, runTicks k s = .next (withEnvironment { s with cnt := k } e) := by
  induction k with
  | zero => exact ⟨s, by rw [runTicks_zero]; simp [withEnvironment, ← hc]⟩
  | succ k ih =>
    obtain ⟨e, hrun⟩ := ih (by omega) (by omega)
    have htick : afterTick (withEnvironment { s with cnt := k } e) = withEnvironment { s with cnt := k + 1 } e :=
      afterTick_count (hi k (by omega) _ hrun) hn (Nat.lt_sub_of_add_lt hkn)
    rw [runTicks_snoc hl hrun, htick, nextTick_eq_withEnvironment]
    exact ⟨_, rfl⟩

/-- What every tick of a delay but the last leaves: nothing but `cnt` changes (R41). -/
theorem runTicks_delayCounting {s : State} {n : Nat} (hl : s.cfg.legal = true) (hd : delayOf s.cfg s.st = some n)
    (hc : s.cnt = 0) (hi : InputsAlong s n fun _ i => i.rst = false) {k : Nat} (hk : k < n) :
    ∃ e, runTicks k s = .next (withEnvironment { s with cnt := k } e) :=
  runTicks_counting hl (ticksOf_of_delayOf hd) hc (fun j hj t ht => countsOn_of_delayOf hd (hi j hj t ht))
    (Nat.le_of_lt hk) hk

/-- A wait that is off its level for all its ticks (R40, R203). -/
theorem runTicks_timeout {s : State} {level : Level} {n : Nat} (hl : s.cfg.legal = true)
    (hw : waitOf s.cfg s.st = some (level, n)) (hc : s.cnt = 0)
    (hi : InputsAlong s n fun _ i => i.rst = false ∧ i.pinIn ≠ level) :
    ∃ e, runTicks n s = .next (withEnvironment (raiseTimeout s.st s) e) := by
  have hn := ticksOf_of_waitOf hw
  obtain ⟨k, rfl⟩ : ∃ k, n = k + 1 := Nat.exists_eq_succ_of_ne_zero (Nat.one_le_iff_ne_zero.1 (ticksOf_pos hl hn))
  obtain ⟨e, hrun⟩ := runTicks_counting (m := k) hl hn hc
    (fun j hj t ht => have ⟨hr, hp⟩ := hi j (by omega) t ht; countsOn_of_waitOf hw hr hp) le_rfl (Nat.lt_succ_self k)
  obtain ⟨hr, hp⟩ := hi k (Nat.lt_succ_self k) _ hrun
  have htick : afterTick (withEnvironment { s with cnt := k } e) =
      raiseTimeout s.st (withEnvironment { s with cnt := k } e) := afterTick_timeout hr hw hp le_rfl
  rw [runTicks_snoc hl hrun, htick, nextTick_eq_withEnvironment]
  exact ⟨_, rfl⟩

/-- A wait whose level is first there at its tick `m`, one of its `n` (R40, R207). -/
theorem runTicks_matched {s : State} {level : Level} {n m : Nat} (hl : s.cfg.legal = true)
    (hw : waitOf s.cfg s.st = some (level, n)) (hc : s.cnt = 0) (hm : m < n)
    (hi : InputsAlong s (m + 1) fun k i => i.rst = false ∧ (i.pinIn = level ↔ k = m)) :
    ∃ e e', runTicks (m + 1) s =
      .next (withEnvironment (onMatch s.st (withEnvironment { s with cnt := 0 } e)) e') := by
  obtain ⟨e, hrun⟩ := runTicks_counting (m := m) hl (ticksOf_of_waitOf hw) hc
    (fun j hj t ht =>
      have ⟨hr, hp⟩ := hi j (by omega) t ht
      countsOn_of_waitOf hw hr fun h => Nat.ne_of_lt hj (hp.1 h)) le_rfl hm
  obtain ⟨hr, hp⟩ := hi m (Nat.lt_succ_self m) _ hrun
  have htick : afterTick (withEnvironment { s with cnt := m } e) =
      onMatch s.st (withEnvironment { s with cnt := 0 } e) := afterTick_matched hr hw (hp.2 rfl)
  rw [runTicks_snoc hl hrun, htick, nextTick_eq_withEnvironment]
  exact ⟨_, _, rfl⟩

/-- A delay from its first tick to its end (R41). -/
theorem runTicks_delay {s : State} {n : Nat} (hl : s.cfg.legal = true) (hd : delayOf s.cfg s.st = some n)
    (hc : s.cnt = 0) (hi : InputsAlong s n fun _ i => i.rst = false) :
    ∃ e e', runTicks n s = .next (withEnvironment (onDelayEnd s.st (withEnvironment { s with cnt := 0 } e)) e') := by
  have hn := ticksOf_of_delayOf hd
  obtain ⟨k, rfl⟩ : ∃ k, n = k + 1 := Nat.exists_eq_succ_of_ne_zero (Nat.one_le_iff_ne_zero.1 (ticksOf_pos hl hn))
  obtain ⟨e, hrun⟩ := runTicks_delayCounting hl hd hc hi (Nat.lt_succ_self k)
  have hr := hi k (Nat.lt_succ_self k) _ hrun
  have htick : afterTick (withEnvironment { s with cnt := k } e) =
      onDelayEnd s.st (withEnvironment { s with cnt := 0 } e) := afterTick_delayEnd hr hd le_rfl
  rw [runTicks_snoc hl hrun, htick, nextTick_eq_withEnvironment]
  exact ⟨_, _, rfl⟩

/-- Settles O40: the wait counts for its N - 1 first ticks and times out at the N-th. -/
theorem waitTimesOutAfterExactlyItsBound : Obligations.WaitTimesOutAfterExactlyItsBound := by
  unfold Obligations.WaitTimesOutAfterExactlyItsBound
  intro s level n hl hw hc hi
  constructor
  · intro k hk
    obtain ⟨e, hrun⟩ := runTicks_counting (m := n) hl (ticksOf_of_waitOf hw) hc
      (fun j hj t ht => have ⟨hr, hp⟩ := hi j hj t ht; countsOn_of_waitOf hw hr hp) (Nat.le_of_lt hk) hk
    exact ⟨_, hrun, rfl, rfl⟩
  · obtain ⟨e, hrun⟩ := runTicks_timeout hl hw hc hi
    exact ⟨_, hrun, rfl, rfl, statusWord_toNat s.st codeTimeout, rfl, rfl, rfl, rfl, rfl, rfl⟩

/-- The state after each wait that is met (R92). -/
theorem onMatch_st {c : Config} {s : State} {level : Level} {n : Nat} (hw : waitOf c s.st = some (level, n)) (u : State) :
    (onMatch s.st u).st = if s.st = 1#4 then 2#4 else if s.st = 4#4 then 5#4 else if s.st = 5#4 then 6#4 else
      if s.st = 6#4 then 7#4 else if 39 ≤ u.idx.toNat then 9#4 else 6#4 := by
  rcases waitOf_cases hw with ⟨h, -⟩ | ⟨h, -⟩ | ⟨h, -⟩ | ⟨h, -⟩ | ⟨h, -⟩ <;> rw [h]
  case inr.inr.inr.inr => exact nextBit_st u
  all_goals rfl

/-- Only BIT_END's success counts the index up, and only below 39 (R142). -/
theorem onMatch_idx {c : Config} {s : State} {level : Level} {n : Nat} (hw : waitOf c s.st = some (level, n)) (u : State) :
    (onMatch s.st u).idx = if s.st = 8#4 ∧ u.idx.toNat < 39 then u.idx + 1#6 else u.idx := by
  rcases waitOf_cases hw with ⟨h, -⟩ | ⟨h, -⟩ | ⟨h, -⟩ | ⟨h, -⟩ | ⟨h, -⟩ <;> rw [h]
  case inr.inr.inr.inr =>
    rcases nextBit_cases u with ⟨hi, hn⟩ | ⟨hi, hn⟩
    · rw [if_neg (by omega)]
      exact (congrArg State.idx hn :)
    · rw [if_pos ⟨rfl, hi⟩]
      exact (congrArg State.idx hn :)
  all_goals rfl

/-- Settles O41: the wait counts up to the first sample at its level, which runs its success action. -/
theorem waitSucceedsOnTheFirstMatchingSample : Obligations.WaitSucceedsOnTheFirstMatchingSample := by
  unfold Obligations.WaitSucceedsOnTheFirstMatchingSample
  intro s level n m hl hw hc hm hi
  obtain ⟨e, e', hrun⟩ := runTicks_matched hl hw hc hm hi
  exact ⟨_, hrun, onMatch_cnt s.st _, onMatch_st hw _, onMatch_idx hw _, onMatch_bitbuf s.st _, onMatch_frame s.st _,
    onMatch_hum s.st _, onMatch_temp s.st _, onMatch_status s.st _, onMatch_pull s.st _⟩

/-! ### The host pulse (R122, R123, R128) -/

/-- DRIVE_LOW in full: the block is then in DRIVE_HIGH with the pull-up requested. -/
theorem runTicks_driveLow {s : State} (hl : s.cfg.legal = true) (hst : s.st = 2#4) (hc : s.cnt = 0)
    (hi : InputsAlong s s.cfg.holdLow fun _ i => i.rst = false) :
    ∃ e, runTicks s.cfg.holdLow s = .next (withEnvironment { s with pull := true, st := 3#4, cnt := 0 } e) := by
  obtain ⟨e, e', hrun⟩ := runTicks_delay hl (by rw [hst]; rfl) hc hi
  rw [hst] at hrun
  exact ⟨e', hrun⟩

/-- DRIVE_HIGH in full: the block is then in ACK_LOW. -/
theorem runTicks_driveHigh {s : State} (hl : s.cfg.legal = true) (hst : s.st = 3#4) (hc : s.cnt = 0)
    (hi : InputsAlong s s.cfg.release fun _ i => i.rst = false) :
    ∃ e, runTicks s.cfg.release s = .next (withEnvironment { s with st := 4#4, cnt := 0 } e) := by
  obtain ⟨e, e', hrun⟩ := runTicks_delay hl (by rw [hst]; rfl) hc hi
  rw [hst] at hrun
  exact ⟨e', hrun⟩

/-- Settles O42: the ticks of DRIVE_LOW, then the ticks of DRIVE_HIGH, then ACK_LOW. -/
theorem hostPulseHasItsExactShape : Obligations.HostPulseHasItsExactShape := by
  unfold Obligations.HostPulseHasItsExactShape
  intro s hl hst hc hi
  have hlow : InputsAlong s s.cfg.holdLow fun _ i => i.rst = false := fun k hk => hi k (by omega)
  obtain ⟨e, hrun⟩ := runTicks_driveLow hl hst hc hlow
  have hhigh := InputsAlong.drop hl hrun hi
  refine ⟨fun k hk => ?_, fun k hle hk => ?_, ?_⟩
  · obtain ⟨e', hrun'⟩ := runTicks_delayCounting hl (by rw [hst]; rfl) hc hlow hk
    exact ⟨_, hrun', by simp [pinOe, withEnvironment, hst], by simp [pinOut, withEnvironment, hst], rfl⟩
  · obtain ⟨j, rfl⟩ := Nat.exists_eq_add_of_le hle
    obtain ⟨e', hrun'⟩ := runTicks_delayCounting (k := j) (by exact hl) rfl rfl hhigh (by omega)
    rw [runTicks_add hl hrun]
    exact ⟨_, hrun', by simp [pinOe, withEnvironment], by simp [pinOut, withEnvironment], rfl⟩
  · obtain ⟨e', hrun'⟩ := runTicks_driveHigh (by exact hl) rfl rfl hhigh
    rw [runTicks_add hl hrun]
    exact ⟨_, hrun', rfl, rfl, by simp [pinOe, withEnvironment], rfl⟩

/-! ### The bound on a transaction (R43 item 8, R245) -/

/-- The bound of one bit: its start, its settling time and its end. -/
def bitTicks (c : Config) : Nat := c.tBitStart + c.settle + c.tBitEnd

/-- At most so many ticks follow the state `st` with bit index `idx` before IDLE. -/
def ticksAfter (c : Config) (st : StateCode) (idx : BitIndex) : Nat :=
  match st.toNat with
  | 1 => c.holdLow + c.release + 2 * c.tAck + 40 * bitTicks c + 2
  | 2 => c.release + 2 * c.tAck + 40 * bitTicks c + 2
  | 3 => 2 * c.tAck + 40 * bitTicks c + 2
  | 4 => c.tAck + 40 * bitTicks c + 2
  | 5 => 40 * bitTicks c + 2
  | 6 => c.settle + c.tBitEnd + (39 - idx.toNat) * bitTicks c + 2
  | 7 => c.tBitEnd + (39 - idx.toNat) * bitTicks c + 2
  | 8 => (39 - idx.toNat) * bitTicks c + 2
  | 9 => 1
  | _ => 0

/-- At most so many ticks are left before IDLE on entry to `st`. -/
def ticksFrom (c : Config) (st : StateCode) (idx : BitIndex) : Nat := (ticksOf c st).getD 1 + ticksAfter c st idx

/-- At most so many ticks are left before IDLE, this one included; a counter past its bound ends its state at this tick. -/
def ticksLeft (s : State) : Nat :=
  max 1 ((ticksOf s.cfg s.st).getD 1 - s.cnt) + ticksAfter s.cfg s.st s.idx

@[simp] theorem ticksLeft_nextTick (s : State) : ticksLeft (nextTick s) = ticksLeft s := by simp [ticksLeft]

/-- Whatever the counter is, no more ticks are left than on entry. -/
theorem ticksLeft_le_ticksFrom {s : State} (hl : s.cfg.legal = true) : ticksLeft s ≤ ticksFrom s.cfg s.st s.idx := by
  unfold ticksLeft ticksFrom
  cases hn : ticksOf s.cfg s.st with
  | none =>
    rw [Option.getD_none]
    omega
  | some n =>
    have hpos := ticksOf_pos hl hn
    rw [Option.getD_some]
    omega

/-- After bit `i` there is one bit more than after bit `i + 1`. -/
theorem bitsLeft_mul {i : Nat} (h : i < 39) (b : Nat) : (39 - i) * b = (38 - i) * b + b := by
  rw [← Nat.succ_mul]
  congr 1
  omega

/-- The bits after bit `idx` are at most 39. -/
theorem bitsLeft_mul_le (idx : BitIndex) (b : Nat) : (39 - idx.toNat) * b ≤ 39 * b :=
  Nat.mul_le_mul_right b (Nat.sub_le 39 idx.toNat)

/-- The state that follows a wait is entered with no more ticks left than are allowed after the wait. -/
theorem ticksLeft_onMatch_le {s : State} (hl : s.cfg.legal = true) {level : Level} {n : Nat}
    (hw : waitOf s.cfg s.st = some (level, n)) :
    ticksLeft (onMatch s.st { s with cnt := 0 }) ≤ ticksAfter s.cfg s.st s.idx := by
  have hbits := bitsLeft_mul_le s.idx (bitTicks s.cfg)
  have hcfg := onMatch_cfg s.st { s with cnt := 0 }
  refine (ticksLeft_le_ticksFrom (by rwa [hcfg])).trans ?_
  rw [hcfg, onMatch_st hw, onMatch_idx hw]
  rcases waitOf_cases hw with ⟨h, -⟩ | ⟨h, -⟩ | ⟨h, -⟩ | ⟨h, -⟩ | ⟨h, -⟩
  case inr.inr.inr.inr =>
    rcases Nat.lt_or_ge s.idx.toNat 39 with hi | hi
    · have hnext := bitsLeft_mul hi (bitTicks s.cfg)
      have hmod : (s.idx.toNat + 1) % 64 = s.idx.toNat + 1 := Nat.mod_eq_of_lt (by omega)
      simp [h, hi, Nat.not_le.2 hi, hmod, ticksFrom, ticksOf, waitOf, ticksAfter]
      unfold bitTicks at hnext ⊢
      omega
    · simp [h, hi, ticksFrom, ticksOf, waitOf, delayOf, ticksAfter]
  all_goals
    simp [h, ticksFrom, ticksOf, waitOf, delayOf, ticksAfter]
    unfold bitTicks at hbits ⊢
    omega

/-- The state that follows a delay is entered with no more ticks left than are allowed after the delay. -/
theorem ticksLeft_onDelayEnd_le {s : State} (hl : s.cfg.legal = true) {n : Nat}
    (hd : delayOf s.cfg s.st = some n) :
    ticksLeft (onDelayEnd s.st { s with cnt := 0 }) ≤ ticksAfter s.cfg s.st s.idx := by
  have hcfg := onDelayEnd_cfg s.st { s with cnt := 0 }
  refine (ticksLeft_le_ticksFrom (by rwa [hcfg])).trans ?_
  rw [hcfg, onDelayEnd_idx]
  rcases delayOf_cases hd with ⟨h, -⟩ | ⟨h, -⟩ | ⟨h, -⟩
  all_goals
    simp [h, onDelayEnd, ticksFrom, ticksOf, waitOf, delayOf, ticksAfter]
    omega

/-- A tick outside IDLE ends in IDLE or has fewer ticks left after it. -/
theorem ticksLeft_tickEffect {s u : State} (hl : s.cfg.legal = true) (hst : s.st ≠ 0#4) (hu : TickEffect s u) :
    u.st = 0#4 ∨ ticksLeft u < ticksLeft s := by
  have hlt : ticksAfter s.cfg s.st s.idx < ticksLeft s := by
    simp only [ticksLeft]
    omega
  cases hu with
  | rest hr h hs => exact absurd h hst
  | accept hr h hs => exact absurd h hst
  | count hr hn hc =>
    right
    simp only [ticksLeft, hn, Option.getD_some]
    omega
  | matched hr hw hp => exact .inr (Nat.lt_of_le_of_lt (ticksLeft_onMatch_le hl hw) hlt)
  | delayEnd hr hd hc => exact .inr (Nat.lt_of_le_of_lt (ticksLeft_onDelayEnd_le hl hd) hlt)
  | assemble hr h =>
    right
    simp [ticksLeft, ticksAfter, ticksOf, waitOf, delayOf, h]
  | _ => exact .inl rfl

/-- Within the ticks left the block is in IDLE. -/
theorem runTicks_reaches_idle {m : Nat} {s : State} (hl : s.cfg.legal = true) (h : s.st = 0#4 ∨ ticksLeft s ≤ m) :
    ∃ k t, k ≤ m ∧ runTicks k s = .next t ∧ t.st = 0#4 := by
  induction m generalizing s with
  | zero =>
    have hpos : 0 < ticksLeft s := by
      simp only [ticksLeft]
      omega
    exact ⟨0, s, le_rfl, rfl, h.resolve_right (by omega)⟩
  | succ m ih =>
    by_cases hst : s.st = 0#4
    · exact ⟨0, s, Nat.zero_le _, rfl, hst⟩
    · have hnext : (nextTick (afterTick s)).st = 0#4 ∨ ticksLeft (nextTick (afterTick s)) ≤ m := by
        rw [nextTick_st, ticksLeft_nextTick]
        exact (ticksLeft_tickEffect hl hst (tickEffect_afterTick s)).imp_right fun hlt =>
          Nat.le_of_lt_succ (Nat.lt_of_lt_of_le hlt (h.resolve_left hst))
      obtain ⟨k, t, hk, hrun, ht⟩ := ih (by simpa using hl) hnext
      exact ⟨k + 1, t, Nat.succ_le_succ hk, by rw [runTicks_succ k s hl, hrun], ht⟩

/-- A reserved code is left at its first tick (R93). -/
theorem ticksFrom_reserved (c : Config) {st : StateCode} (h : 11 ≤ st.toNat) (idx : BitIndex) :
    ticksFrom c st idx = 1 := by
  have hlt := st.isLt
  unfold ticksFrom ticksOf waitOf delayOf ticksAfter
  generalize st.toNat = n at h hlt
  interval_cases n <;> rfl

/-- No state has more ticks left on entry than the sum of the bounds (R245). -/
theorem ticksFrom_le (c : Config) (st : StateCode) (idx : BitIndex) :
    ticksFrom c st idx ≤ c.tIdle + c.holdLow + c.release + 2 * c.tAck +
      40 * (c.tBitStart + c.settle + c.tBitEnd) + 2 := by
  have hbits := bitsLeft_mul_le idx (bitTicks c)
  rcases stateCode_kinds c st with rfl | ⟨level, n, hw⟩ | ⟨n, hd⟩ | rfl | rfl | h
  · change 1 ≤ _
    omega
  · rw [ticksFrom, ticksOf_of_waitOf hw]
    rcases waitOf_cases hw with ⟨rfl, -, rfl⟩ | ⟨rfl, -, rfl⟩ | ⟨rfl, -, rfl⟩ | ⟨rfl, -, rfl⟩ | ⟨rfl, -, rfl⟩
    all_goals
      simp [ticksAfter]
      unfold bitTicks at hbits ⊢
      omega
  · rw [ticksFrom, ticksOf_of_delayOf hd]
    rcases delayOf_cases hd with ⟨rfl, rfl⟩ | ⟨rfl, rfl⟩ | ⟨rfl, rfl⟩
    all_goals
      simp [ticksAfter]
      unfold bitTicks at hbits ⊢
      omega
  · change 2 ≤ _
    omega
  · change 1 ≤ _
    omega
  · rw [ticksFrom_reserved c h]
    omega

/-- Settles O46: the ticks left fall at every tick until IDLE, and are at most the sum of the bounds at the start. -/
theorem everyTransactionEndsWithinTheBound : Obligations.EveryTransactionEndsWithinTheBound := by
  unfold Obligations.EveryTransactionEndsWithinTheBound
  have hbound : ∀ s : State, s.cfg.legal = true → _ := fun s hl =>
    runTicks_reaches_idle hl (.inr ((ticksLeft_le_ticksFrom hl).trans (ticksFrom_le s.cfg s.st s.idx)))
  refine ⟨fun s hl _ => hbound s hl, fun s hcfg _ => ?_⟩
  have hdefault := hbound s (by rw [hcfg]; decide)
  rw [hcfg] at hdefault
  exact hdefault

end Sys2Proof.Machine

/-! ## The frame as one number (R64) -/

namespace Sys2Proof.Machine

/-- Byte `j` of the frame stands in bits `39 - 8j` to `32 - 8j` of `frame_o` (R64). -/
theorem frameNumber_byte (f : Vector Byte 5) (j : Nat) (hj : j < 5) :
    (frameNumber f).extractLsb' (8 * (4 - j)) 8 = f[j] := by
  apply BitVec.eq_of_getLsbD_eq
  intro i hi
  have hpos : 8 * (4 - j) + i = 39 - (8 * j + (7 - i)) := by omega
  have hbyte : (8 * j + (7 - i)) / 8 = j := by omega
  have hbit : 7 - (8 * j + (7 - i)) % 8 = i := by omega
  calc ((frameNumber f).extractLsb' (8 * (4 - j)) 8).getLsbD i
      = (frameNumber f).getLsbD (8 * (4 - j) + i) := by
        rw [BitVec.getLsbD_extractLsb', decide_eq_true hi, Bool.true_and]
    _ = (frameNumber f).getLsbD (39 - (8 * j + (7 - i))) := by rw [hpos]
    _ = f[(8 * j + (7 - i)) / 8].getLsbD (7 - (8 * j + (7 - i)) % 8) := frameNumber_bit f _ (by omega)
    _ = f[j].getLsbD i := by simp only [hbyte, hbit]

/-- Bit `39 - k` of a packed frame's number is element `k` of the buffer: byte `k / 8`, element `k % 8` (R64, R65). -/
theorem frameNumber_packFrame_bit (b : Vector Bool 40) (k : Nat) (hk : k < 40) :
    (frameNumber (packFrame b)).getLsbD (39 - k) = b[k] := by
  have hj : k / 8 < 5 := by omega
  have hr : k % 8 < 8 := Nat.mod_lt k (by decide)
  calc (frameNumber (packFrame b)).getLsbD (39 - k)
      = (packFrame b)[k / 8].getLsbD (7 - k % 8) := frameNumber_bit (packFrame b) k hk
    _ = (packByte b (8 * (k / 8)) (by omega)).getLsbD (7 - k % 8) := by rw [packFrame_byte b (k / 8) hj]
    _ = b[8 * (k / 8) + k % 8] := packByte_bit b (8 * (k / 8)) (by omega) (k % 8) hr
    _ = b[k] := by simp only [Nat.div_add_mod]

/-- ASSEMBLE answers the buffer's packing as the frame (R160). -/
theorem exec_assemble_frame {s t : State} (h : exec .assemble s = .next t) : t.frame = packFrame s.bitbuf := by
  obtain rfl := Host.Outcome.next.inj h
  rfl

/-- Settles O38: byte by byte from the bits of `frame_o`, and bit by bit through the byte that ASSEMBLE packs. -/
theorem frameOutputIsTheBitsInOrderReceived : Obligations.FrameOutputIsTheBitsInOrderReceived := by
  unfold Obligations.FrameOutputIsTheBitsInOrderReceived
  refine ⟨fun s => ?_, fun s t h k => ?_⟩
  · exact ⟨frameNumber_byte s.frame 0 (by decide), frameNumber_byte s.frame 1 (by decide),
      frameNumber_byte s.frame 2 (by decide), frameNumber_byte s.frame 3 (by decide),
      frameNumber_byte s.frame 4 (by decide)⟩
  · rw [frameO, exec_assemble_frame h]
    exact frameNumber_packFrame_bit s.bitbuf k.val k.isLt

end Sys2Proof.Machine

/-! ## Proofs for spec/30_encoding.md: the code tables and the stimulus -/

namespace Sys2Proof.Machine

/-! ### The code tables (R90, R91, R93, R99) -/

/-- The table of R90 has one code per row: the encoder undoes the decoder of `st`. -/
theorem encode_decodeState (c : StateCode) : encode (decodeState c) = .state4 c := by
  revert c
  decide

/-- The strobe words 01 and 10 are the encoder's, 11 is RST too, 00 is no command (R99). -/
theorem encode_of_decodeStrobe {w : StrobeWord} {i : Instr} (h : decodeStrobe w = .ok i) :
    encode i = .strobe2 w ∨ (i = .rst ∧ w = 3#2) := by
  have hwords : ∀ v : StrobeWord, v = 0#2 ∨ v = 1#2 ∨ v = 2#2 ∨ v = 3#2 := by decide
  rcases hwords w with rfl | rfl | rfl | rfl <;> cases h
  · exact .inl rfl
  · exact .inl rfl
  · exact .inr ⟨rfl, rfl⟩

theorem decode_encode (i : Instr) : decode (encode i) = .ok i := by
  cases i <;> rfl

/-- Settles O1: row by row one way, format by format the other. -/
theorem decodeOfEncodeIsTheInstruction : Obligations.DecodeOfEncodeIsTheInstruction := by
  unfold Obligations.DecodeOfEncodeIsTheInstruction
  refine ⟨decode_encode, fun c i h => ?_⟩
  cases c with
  | state4 code =>
    cases h
    exact .inl (encode_decodeState code)
  | strobe2 word => exact (encode_of_decodeStrobe h).imp_right fun ⟨hi, hw⟩ => ⟨hi, congrArg Code.strobe2 hw⟩

/-- Settles O2: eleven of the words are the encoder's, the words 11 and 00 are evaluated. -/
theorem tableWordsDecodeAsTabulated : Obligations.TableWordsDecodeAsTabulated :=
  ⟨decode_encode .idle, decode_encode .waitIdle, decode_encode .driveLow, decode_encode .ackHigh,
    decode_encode .bitSettle, decode_encode .bitEnd, decode_encode .assemble, decode_encode .validate,
    decode_encode .reserved13, decode_encode .start, decode_encode .rst, rfl, rfl⟩

/-- Settles O10: by what START is in IDLE and what it is elsewhere. -/
theorem startAcceptsOnlyInIdle : Obligations.StartAcceptsOnlyInIdle := by
  unfold Obligations.StartAcceptsOnlyInIdle
  intro s
  exact ⟨exec_start_idle, fun h => ⟨exec_start_busy h, exec_answers .start s⟩⟩

/-! ### The stimulus (R101, R102) -/

@[simp] theorem byteTicks_length (v : Byte) : (byteTicks v).length = 640 := by simp [byteTicks]

@[simp] theorem frameTicks_length (a b c d e : Byte) : (frameTicks a b c d e).length = 3200 := by simp [frameTicks]

theorem txnTicks_length (a b c d e : Byte) : (txnTicks a b c d e).length = 23392 := by
  simp [txnTicks, startTick, hostPulseTicks, ackTicks]

theorem stmtTicks_symbol (bit : Bool) : stmtTicks (if bit = true then .b1 else .b0) = symbolTicks bit := by
  cases bit <;> rfl

/-- A byte is the symbols of its bits 7 down to 0 (R102). -/
theorem byteTicks_eq_flatMap (v : Byte) :
    byteTicks v = [7, 6, 5, 4, 3, 2, 1, 0].flatMap fun j => symbolTicks (v.getLsbD j) := by
  simp [byteTicks]

@[simp] theorem programTicks_nil : programTicks [] = [] := rfl

@[simp] theorem programTicks_cons (x : Stmt) (p : List Stmt) : programTicks (x :: p) = stmtTicks x ++ programTicks p :=
  List.flatMap_cons

theorem programTicks_append (p q : List Stmt) : programTicks (p ++ q) = programTicks p ++ programTicks q :=
  List.flatMap_append

theorem frameTicks_eq_program (a b c d e : Byte) :
    frameTicks a b c d e = programTicks [.byte a, .byte b, .byte c, .byte d, .byte e] := by
  simp [frameTicks, stmtTicks]

theorem txnTicks_eq_program (a b c d e : Byte) :
    txnTicks a b c d e = programTicks [.start, .high 1, .hostPulse, .ack, .frame a b c d e] := by
  simp [txnTicks, stmtTicks]

/-- Settles O3: the statements of R101 by definition, the pseudo-statements by the equations above. -/
theorem stimulusStatementsExpandAsTabulated : Obligations.StimulusStatementsExpandAsTabulated := by
  unfold Obligations.StimulusStatementsExpandAsTabulated
  refine ⟨fun _ => rfl, rfl, fun _ => rfl, fun _ => rfl, rfl, rfl, rfl, rfl, fun v => ?_, frameTicks_eq_program,
    txnTicks_eq_program, programTicks_nil, fun x => ?_, programTicks_append, byteTicks_length, frameTicks_length,
    txnTicks_length⟩
  · simp only [stmtTicks_symbol]
    exact byteTicks_eq_flatMap v
  · rw [programTicks_cons, programTicks_nil, List.append_nil]

/-- With a free host the next tick's ports are the raw inputs, and the driver does nothing. -/
theorem nextTick_free {s : State} (h : s.host = .free) :
    nextTick s = { s with inp := rawInputs s, pending := s.pending.tail, tick := s.tick + 1 } := by
  unfold nextTick
  rw [h]

/-- The raw inputs are read off fields that a tick does not write. -/
theorem rawInputs_afterTick (s : State) : rawInputs (afterTick s) = rawInputs s := by
  obtain ⟨-, hinp, hpending, htail, -, htick, -⟩ := afterTick_environment s
  unfold rawInputs
  rw [hinp, hpending, htail, htick]

/-- Settles O8: the tick leaves the environment alone, so the next ports are those of `rawInputs`. -/
theorem nextInputsComeFromTheStimulus : Obligations.NextInputsComeFromTheStimulus := by
  unfold Obligations.NextInputsComeFromTheStimulus
  intro s t hfree h
  obtain ⟨-, rfl⟩ := step_next h
  obtain ⟨hcfg, -, hpending, htail, hhost, htick, hdriver⟩ := afterTick_environment s
  rw [nextTick_free (hhost.trans hfree), rawInputs_afterTick, hpending, htick]
  refine ⟨fun i rest hp => ?_, fun hp ht => ?_, fun hp ht => ?_, rfl, hdriver, hcfg, htail, hhost⟩
  · simp [rawInputs, hp]
  · simp [rawInputs, hp, ht]
  · simp [rawInputs, hp, ht]

end Sys2Proof.Machine

/-! ## Proofs for spec/30_encoding.md: the reserved codes, the status word and the transition table -/

namespace Sys2Proof.Machine

/-! ### The reserved codes (R93) -/

theorem exec_reserved {i : Instr}
    (hi : i ∈ [Instr.reserved11, .reserved12, .reserved13, .reserved14, .reserved15]) (s : State) :
    exec i s = .next (leaveReserved s) := by
  fin_cases hi <;> rfl

theorem ne_of_reserved {st : StateCode} (h : 11 ≤ st.toNat) {c : StateCode} (hc : c.toNat ≤ 10) : st ≠ c := by
  rintro rfl
  omega

/-- The state after each delay (R92). -/
theorem onDelayEnd_st (st : StateCode) (u : State) {c : Config} {n : Nat} (hd : delayOf c st = some n) :
    (onDelayEnd st u).st = if st = 2#4 then 3#4 else if st = 3#4 then 4#4 else 8#4 := by
  rcases delayOf_cases hd with ⟨rfl, -⟩ | ⟨rfl, -⟩ | ⟨rfl, -⟩ <;> rfl

/-- No case of a tick leads from a legal code to a reserved one (R93). -/
theorem TickEffect.st_legal {s u : State} (hu : TickEffect s u) (h : s.st.toNat ≤ 10) : u.st.toNat ≤ 10 := by
  cases hu with
  | rest hr hst hs => exact h
  | count hr hn hc => exact h
  | matched hr hw hp =>
    rw [onMatch_st hw]
    split_ifs <;> decide
  | delayEnd hr hd hc =>
    rw [onDelayEnd_st s.st _ hd]
    split_ifs <;> decide
  | reserved hr hst => omega
  | _ => simp

/-- Settles O23: the step by the reserved rows' common meaning, unreachability case by case of a tick. -/
theorem reservedCodesReturnToIdle : Obligations.ReservedCodesReturnToIdle := by
  unfold Obligations.ReservedCodesReturnToIdle
  refine ⟨fun s i hi => exec_reserved hi s, by decide, fun s h => ?_, fun s t h ht => ?_, rfl⟩
  · have hidle : s.st ≠ 0#4 := ne_of_reserved h (by decide)
    have hlow : s.st ≠ 2#4 := ne_of_reserved h (by decide)
    have hhigh : s.st ≠ 3#4 := ne_of_reserved h (by decide)
    simp [busy, pinOe, pinOut, hidle, hlow, hhigh]
  · obtain ⟨u, hu, rfl⟩ := tickEffect_of_step ht
    rw [nextTick_st]
    exact hu.st_legal h

/-! ### The eight values of `status` (R94) -/

/-- The status word of each wait state's timeout is among the eight values. -/
theorem timeout_mem_statusValues {c : Config} {st : StateCode} {level : Level} {n : Nat}
    (hw : waitOf c st = some (level, n)) : statusWord st codeTimeout ∈ statusValues := by
  rcases waitOf_cases hw with ⟨rfl, -⟩ | ⟨rfl, -⟩ | ⟨rfl, -⟩ | ⟨rfl, -⟩ | ⟨rfl, -⟩ <;> decide

theorem TickEffect.status_mem {s u : State} (hu : TickEffect s u) (h : s.status ∈ statusValues) :
    u.status ∈ statusValues := by
  cases hu with
  | timeout hr hw hp hc => exact timeout_mem_statusValues hw
  | reset hr => simp [statusValues]
  | commit hr hst hv => simp [statusValues]
  | reject hr hst hv => simp [statusValues]
  | _ => simpa using h

/-- Among the eight values `fail` is non-zero exactly beside TIMEOUT. -/
theorem statusValues_fail_iff :
    ∀ w ∈ statusValues, w.extractLsb' 2 4 ≠ 0#4 ↔ w.extractLsb' 0 2 = 2#2 := by
  decide

/-- Settles O37: each case of a tick records one of the eight values or keeps `status`. -/
theorem statusKeepsToItsEightValues : Obligations.StatusKeepsToItsEightValues := by
  unfold Obligations.StatusKeepsToItsEightValues
  intro s t h ht
  obtain ⟨u, hu, rfl⟩ := tickEffect_of_step ht
  rw [nextTick_status]
  exact ⟨hu.status_mem h, statusValues_fail_iff _ (hu.status_mem h)⟩

/-! ### The transition table (R92) -/

theorem waitLevel_st (level : Level) (bound : Nat) (self : StateCode) (next : State → State) (s : State) :
    (waitLevel level bound self next s).st =
      if s.inp.pinIn = level then (next { s with cnt := 0 }).st else if bound - 1 ≤ s.cnt then 0#4 else s.st := by
  unfold waitLevel
  split
  · rfl
  · split <;> rfl

theorem delayTicks_st (length : Nat) (next : State → State) (s : State) :
    (delayTicks length next s).st = if length - 1 ≤ s.cnt then (next { s with cnt := 0 }).st else s.st := by
  unfold delayTicks
  split <;> rfl

/-- BIT_END's success action by R92's condition `idx < 39`. -/
theorem nextBit_st_lt (s : State) : (nextBit s).st = if s.idx.toNat < 39 then 6#4 else 9#4 := by
  rcases nextBit_cases s with ⟨hi, hn⟩ | ⟨hi, hn⟩ <;> rw [hn]
  · exact (if_neg (Nat.not_lt.2 hi)).symm
  · exact (if_pos hi).symm

/-- The next code, as R92's table gives it row by row. -/
def nextCode (s : State) : StateCode :=
  if s.inp.rst = true then 0#4 else
  if s.st = 0#4 then (if s.inp.start = true then 1#4 else 0#4)
  else if s.st = 1#4 then (if s.inp.pinIn = true then 2#4 else if s.cfg.tIdle - 1 ≤ s.cnt then 0#4 else 1#4)
  else if s.st = 2#4 then (if s.cfg.holdLow - 1 ≤ s.cnt then 3#4 else 2#4)
  else if s.st = 3#4 then (if s.cfg.release - 1 ≤ s.cnt then 4#4 else 3#4)
  else if s.st = 4#4 then (if s.inp.pinIn = false then 5#4 else if s.cfg.tAck - 1 ≤ s.cnt then 0#4 else 4#4)
  else if s.st = 5#4 then (if s.inp.pinIn = true then 6#4 else if s.cfg.tAck - 1 ≤ s.cnt then 0#4 else 5#4)
  else if s.st = 6#4 then (if s.inp.pinIn = false then 7#4 else if s.cfg.tBitStart - 1 ≤ s.cnt then 0#4 else 6#4)
  else if s.st = 7#4 then (if s.cfg.settle - 1 ≤ s.cnt then 8#4 else 7#4)
  else if s.st = 8#4 then
    (if s.inp.pinIn = true then (if s.idx.toNat < 39 then 6#4 else 9#4)
      else if s.cfg.tBitEnd - 1 ≤ s.cnt then 0#4 else 8#4)
  else if s.st = 9#4 then 10#4
  else 0#4

/-- Every tick goes where the table says: the reset's row, then the row of each state. -/
theorem afterTick_st (s : State) : (afterTick s).st = nextCode s := by
  unfold nextCode
  cases hr : s.inp.rst
  case true => simp [afterTick_rst hr]
  case false =>
    rcases stateCode_cases s.st with h | h | h | h | h | h | h | h | h | h | h | h
    · rw [afterTick_idle hr h]
      cases s.inp.start <;> simp [h]
    · simp [afterTick_waitIdle hr h, waitLevel_st, h]
    · simp [afterTick_driveLow hr h, delayTicks_st, h]
    · simp [afterTick_driveHigh hr h, delayTicks_st, h]
    · simp [afterTick_ackLow hr h, waitLevel_st, h]
    · simp [afterTick_ackHigh hr h, waitLevel_st, h]
    · simp [afterTick_bitStart hr h, waitLevel_st, h]
    · simp [afterTick_bitSettle hr h, delayTicks_st, h]
    · simp [afterTick_bitEnd hr h, waitLevel_st, nextBit_st_lt, h]
    · simp [afterTick_assemble hr h, h]
    · simp [afterTick_validate hr h, h]
    · simp [afterTick_reserved hr h, ne_of_reserved h]

theorem waitOf_of_mem (c : Config) {st : StateCode} (h : st ∈ [1#4, 4#4, 5#4, 6#4, 8#4]) :
    ∃ level n, waitOf c st = some (level, n) := by
  fin_cases h <;> exact ⟨_, _, rfl⟩

/-- A wait state that is left for IDLE without a reset has timed out, with its own code as `fail` (R203). -/
theorem afterTick_status_of_abort {s : State} (hr : s.inp.rst = false) (hst : s.st ∈ [1#4, 4#4, 5#4, 6#4, 8#4])
    (hidle : (afterTick s).st = 0#4) : (afterTick s).status.toNat = 4 * s.st.toNat + 2 := by
  obtain ⟨level, n, hw⟩ := waitOf_of_mem s.cfg hst
  rw [afterTick_wait hr hw] at hidle ⊢
  rcases waitLevel_cases level n s.st (onMatch s.st) s (ticksOf_le_largest (ticksOf_of_waitOf hw)) with
    ⟨-, h⟩ | ⟨-, -, h⟩ | ⟨-, -, h⟩ <;> rw [h] at hidle ⊢
  · rw [onMatch_st hw] at hidle
    split_ifs at hidle <;> cases hidle
  · exact statusWord_toNat s.st codeTimeout
  · dsimp only at hidle
    simp [hidle] at hst

/-- The end of BIT_SETTLE records the level in element `idx` (R141). -/
theorem afterTick_sample {s : State} (hr : s.inp.rst = false) (hst : s.st = 7#4) (hend : (afterTick s).st = 8#4)
    (j : Fin 40) (hj : s.idx.toNat = j.val) : (afterTick s).bitbuf[j] = s.inp.pinIn := by
  rw [afterTick_bitSettle hr hst] at hend ⊢
  rcases delayTicks_cases s.cfg.settle (fun u => goTo stBitEnd (memWriteBit u.idx u.inp.pinIn u)) s
    (ticksOf_le_largest (c := s.cfg) (st := 7#4) rfl) with ⟨-, h⟩ | ⟨-, h⟩ <;> rw [h] at hend ⊢
  · exact (memWriteBit_bitbuf s.idx s.inp.pinIn { s with cnt := 0 } j.val j.isLt).trans (if_pos hj)
  · rw [hst] at hend
    cases hend

/-- BIT_END's loop back to BIT_START increments `idx` (R142). -/
theorem afterTick_idx_of_loop {s : State} (hr : s.inp.rst = false) (hst : s.st = 8#4)
    (hloop : (afterTick s).st = 6#4) : (afterTick s).idx.toNat = s.idx.toNat + 1 := by
  rw [afterTick_bitEnd hr hst] at hloop ⊢
  rcases waitLevel_cases true s.cfg.tBitEnd stBitEnd nextBit s
    (ticksOf_le_largest (c := s.cfg) (st := 8#4) rfl) with ⟨-, h⟩ | ⟨-, -, h⟩ | ⟨-, -, h⟩ <;> rw [h] at hloop ⊢
  · rcases nextBit_cases { s with cnt := 0 } with ⟨-, hn⟩ | ⟨hi, hn⟩ <;> rw [hn] at hloop ⊢
    · cases hloop
    · dsimp only at hi ⊢
      rw [BitVec.toNat_add]
      exact Nat.mod_eq_of_lt (by simp; omega)
  · cases hloop
  · rw [hst] at hloop
    cases hloop

/-- VALIDATE records one of its two results (R170). -/
theorem afterTick_validate_status {s : State} (hr : s.inp.rst = false) (hst : s.st = 10#4) :
    (afterTick s).status = 0x01#6 ∨ (afterTick s).status = 0x03#6 := by
  rw [afterTick_validate hr hst]
  split
  · exact .inl rfl
  · exact .inr rfl

/-- Settles O29: the next code by `afterTick_st`, each note of the table by its lemma. -/
theorem transitionsOfStAreThoseOfTheTable : Obligations.TransitionsOfStAreThoseOfTheTable := by
  unfold Obligations.TransitionsOfStAreThoseOfTheTable
  intro s t h c p atBound
  obtain ⟨-, rfl⟩ := step_next h
  simp only [nextTick_st, nextTick_cnt, nextTick_idx, nextTick_bitbuf, nextTick_frame, nextTick_hum, nextTick_temp,
    nextTick_status, nextTick_pull]
  refine ⟨afterTick_st s, fun hr => ?_, afterTick_status_of_abort, afterTick_sample, afterTick_idx_of_loop,
    afterTick_validate_status⟩
  rw [afterTick_rst hr]
  exact ⟨rfl, rfl, rfl, rfl, rfl, rfl, rfl, rfl⟩

end Sys2Proof.Machine

/-! ## Proofs for spec/30_encoding.md: the bit sampled and a whole transaction -/

namespace Sys2Proof.Machine

/-! ### The last tick of a delay (R41, R141) -/

/-- A delay in full: its last action reads the inputs of its last tick `u`. -/
theorem runTicks_delay_of_last {s u : State} {n : Nat} (hl : s.cfg.legal = true)
    (hd : delayOf s.cfg s.st = some (n + 1)) (hc : s.cnt = 0) (hi : InputsAlong s (n + 1) fun _ i => i.rst = false)
    (hu : runTicks n s = .next u) :
    ∃ e, runTicks (n + 1) s = .next (withEnvironment (onDelayEnd s.st (withEnvironment { s with cnt := 0 } u)) e) := by
  obtain ⟨e, hrun⟩ := runTicks_delayCounting hl hd hc hi (Nat.lt_succ_self n)
  obtain rfl := Host.Outcome.next.inj (hu.symm.trans hrun)
  have htick : afterTick (withEnvironment { s with cnt := n } e) =
      onDelayEnd s.st (withEnvironment { s with cnt := 0 } e) :=
    afterTick_delayEnd (hi n (Nat.lt_succ_self n) _ hrun) hd le_rfl
  rw [runTicks_snoc hl hrun, htick, nextTick_eq_withEnvironment]
  exact ⟨_, rfl⟩

/-- With the line low BIT_START is left for BIT_SETTLE in one tick, whatever the counter is (R140). -/
theorem runTicks_bitStart {s : State} (hl : s.cfg.legal = true) (hst : s.st = 6#4) (hr : s.inp.rst = false)
    (hp : s.inp.pinIn = false) : ∃ e, runTicks 1 s = .next (withEnvironment { s with st := 7#4, cnt := 0 } e) := by
  have hw : waitOf s.cfg s.st = some (false, s.cfg.tBitStart) := by rw [hst]; rfl
  rw [runTicks_succ 0 s hl, runTicks_zero, afterTick_matched hr hw hp, hst, nextTick_eq_withEnvironment]
  exact ⟨_, rfl⟩

/-- Settles O43: BIT_START's one tick, then BIT_SETTLE in full, whose last tick is the run's tick SETTLE. -/
theorem bitIsTheLevelSettleTicksAfterItsStart : Obligations.BitIsTheLevelSettleTicksAfterItsStart := by
  unfold Obligations.BitIsTheLevelSettleTicksAfterItsStart
  intro s u hl hst hidx hpin hi hu
  obtain ⟨n, hn⟩ : ∃ n, s.cfg.settle = n + 1 :=
    Nat.exists_eq_succ_of_ne_zero (Nat.one_le_iff_ne_zero.1 (ticksOf_pos (st := 7#4) hl rfl))
  rw [hn, Nat.add_comm] at hi hu ⊢
  obtain ⟨e, hfirst⟩ := runTicks_bitStart hl hst (hi 0 (by omega) s rfl) hpin
  have hd : delayOf s.cfg 7#4 = some (n + 1) := congrArg some hn
  rw [runTicks_add hl hfirst] at hu ⊢
  obtain ⟨e', hrun⟩ := runTicks_delay_of_last (by exact hl) hd rfl (InputsAlong.drop hl hfirst hi) hu
  exact ⟨_, hrun, rfl, memWriteBit_cnt _ _ _, memWriteBit_idx _ _ _,
    fun j => memWriteBit_bitbuf _ _ _ j.val j.isLt, memWriteBit_frame _ _ _, memWriteBit_hum _ _ _,
    memWriteBit_temp _ _ _, memWriteBit_status _ _ _⟩

/-! ### A machine that is fed triples without a strobe -/

/-- None of the triples raises a strobe. -/
def Quiet (l : List Inputs) : Prop := ∀ i ∈ l, i.rst = false ∧ i.start = false

@[simp] theorem quiet_append (l l' : List Inputs) : Quiet (l ++ l') ↔ Quiet l ∧ Quiet l' := List.forall_mem_append

@[simp] theorem quiet_cons (i : Inputs) (l : List Inputs) :
    Quiet (i :: l) ↔ (i.rst = false ∧ i.start = false) ∧ Quiet l := List.forall_mem_cons

@[simp] theorem quiet_nil : Quiet [] := fun _ hi => absurd hi List.not_mem_nil

@[simp] theorem quiet_highTicks (n : Nat) : Quiet (highTicks n) := fun _ hi => by
  rw [List.eq_of_mem_replicate hi]
  exact ⟨rfl, rfl⟩

@[simp] theorem quiet_lowTicks (n : Nat) : Quiet (lowTicks n) := fun _ hi => by
  rw [List.eq_of_mem_replicate hi]
  exact ⟨rfl, rfl⟩

@[simp] theorem quiet_symbolTicks (bit : Bool) : Quiet (symbolTicks bit) := by
  cases bit <;> simp [symbolTicks]

theorem quiet_flatMap_symbolTicks (bits : List Bool) : Quiet (bits.flatMap symbolTicks) := fun i hi => by
  obtain ⟨bit, -, hi⟩ := List.mem_flatMap.1 hi
  exact quiet_symbolTicks bit i hi

/-- The inputs of this tick and of the next ones are these triples, none of which raises a strobe. -/
structure Fed (s : State) (l : List Inputs) : Prop where
  free : s.host = .free
  inputs : s.inp :: s.pending = l
  quiet : Quiet l

/-- What is pending feeds the next tick. -/
theorem fed_nextTick {s : State} (hfree : s.host = .free) (hne : s.pending ≠ [])
    (hq : Quiet s.pending) : Fed (nextTick s) s.pending := by
  rw [nextTick_free hfree]
  refine ⟨hfree, ?_, hq⟩
  cases hp : s.pending with
  | nil => exact absurd hp hne
  | cons i rest => simp [rawInputs, hp]

theorem Fed.tick {s : State} {i : Inputs} {rest : List Inputs} (h : Fed s (i :: rest)) (hne : rest ≠ []) :
    Fed (nextTick (afterTick s)) rest := by
  obtain ⟨-, -, hpending, -, hhost, -, -⟩ := afterTick_environment s
  obtain ⟨-, hrest⟩ := List.cons.inj h.inputs
  rw [hrest] at hpending
  have hfed := fed_nextTick (s := afterTick s) (hhost.trans h.free) (by rwa [hpending])
    (by rw [hpending]; exact fun j hj => h.quiet j (List.mem_cons_of_mem i hj))
  rwa [hpending] at hfed

/-- After `k` ticks the triples from `k` on are left. -/
theorem Fed.runTicks {k : Nat} {s t : State} {l : List Inputs} (h : Fed s l) (hl : s.cfg.legal = true)
    (hk : k < l.length) (ht : runTicks k s = .next t) : Fed t (l.drop k) := by
  induction k generalizing s l with
  | zero =>
    cases ht
    exact h
  | succ k ih =>
    cases l with
    | nil => cases hk
    | cons i rest =>
      have hlt : k < rest.length := Nat.lt_of_succ_lt_succ hk
      rw [runTicks_succ k s hl] at ht
      exact ih (h.tick (List.ne_nil_of_length_pos (Nat.zero_lt_of_lt hlt))) (by simpa using hl) hlt ht

/-- The inputs of tick `k` are the triple `k`. -/
theorem Fed.inp {k : Nat} {s t : State} {l : List Inputs} (h : Fed s l) (hl : s.cfg.legal = true)
    (hk : k < l.length) (ht : Machine.runTicks k s = .next t) : t.inp = l[k] := by
  have hinputs := (h.runTicks hl hk ht).inputs
  rw [List.drop_eq_getElem_cons hk] at hinputs
  exact (List.cons.inj hinputs).1

theorem Fed.inputsAlong {s : State} {l : List Inputs} {n : Nat} {P : Nat → Inputs → Prop} (h : Fed s l)
    (hl : s.cfg.legal = true) (hn : n ≤ l.length) (hP : ∀ k (hk : k < n), P k (l[k]'(hk.trans_le hn))) :
    InputsAlong s n P := by
  intro k hk t ht
  rw [h.inp hl (hk.trans_le hn) ht]
  exact hP k hk

theorem Fed.noReset {s : State} {l : List Inputs} {n : Nat} (h : Fed s l) (hl : s.cfg.legal = true)
    (hn : n ≤ l.length) : InputsAlong s n fun _ i => i.rst = false :=
  h.inputsAlong hl hn fun _ hk => (h.quiet _ (List.getElem_mem (hk.trans_le hn))).1

/-- Without a strobe IDLE is not left (R120). -/
theorem Fed.idle_stays {m : Nat} {s t : State} {l : List Inputs} (h : Fed s l) (hl : s.cfg.legal = true)
    (hst : s.st = 0#4) (hm : m < l.length) (ht : Machine.runTicks m s = .next t) : t.st = 0#4 := by
  induction m generalizing t with
  | zero =>
    cases ht
    exact hst
  | succ m ih =>
    have hrun := runTicks_eq m s hl
    generalize (fun u => nextTick (afterTick u))^[m] s = u at hrun
    have hu : u.st = 0#4 := ih (Nat.lt_of_succ_lt hm) hrun
    have hlt := Nat.lt_of_succ_lt hm
    obtain ⟨hr, hs⟩ := h.quiet _ (List.getElem_mem hlt)
    rw [← h.inp hl hlt hrun] at hr hs
    rw [runTicks_snoc hl hrun] at ht
    cases ht
    rw [nextTick_st, afterTick_idle hr hu, hs]
    exact hu

/-- Without a strobe a block that is busy at one tick was busy at every tick before. -/
theorem Fed.busy_before {m : Nat} {s t : State} {l : List Inputs} (h : Fed s l) (hl : s.cfg.legal = true)
    (hm : m < l.length) (ht : Machine.runTicks m s = .next t) (hst : t.st ≠ 0#4) {k : Nat} (hk : k ≤ m) :
    ∃ u, Machine.runTicks k s = .next u ∧ busy u = true := by
  have hrun := runTicks_eq k s hl
  generalize (fun u => nextTick (afterTick u))^[k] s = u at hrun
  refine ⟨u, hrun, decide_eq_true fun hu => hst ?_⟩
  have hlu : u.cfg.legal = true := by rwa [runTicks_cfg hl hrun]
  have hlen : m - k < (l.drop k).length := by
    rw [List.length_drop]
    omega
  refine (h.runTicks hl (hk.trans_lt hm) hrun).idle_stays hlu hu hlen ?_
  rw [← runTicks_add hl hrun, Nat.add_sub_cancel' hk]
  exact ht

/-- The success action of a wait reads nothing of the environment. -/
theorem withEnvironment_onMatch (c : StateCode) (s e e' : State) :
    withEnvironment (onMatch c (withEnvironment s e)) e' = withEnvironment (onMatch c s) e' := by
  unfold onMatch
  split
  case h_5 => by_cases h : 39 ≤ s.idx.toNat <;> simp [nextBit, withEnvironment, goTo, h]
  all_goals rfl

/-- The last action of a delay reads nothing of the environment but the inputs. -/
theorem withEnvironment_onDelayEnd (c : StateCode) (s e e' : State) :
    withEnvironment (onDelayEnd c (withEnvironment s e)) e' =
      withEnvironment (onDelayEnd c { s with inp := e.inp }) e' := by
  unfold onDelayEnd
  split
  case h_3 => by_cases h : s.idx.toNat ≤ 39 <;> simp [memWriteBit, withEnvironment, goTo, h]
  all_goals rfl

/-! ### Runs by the triples that feed them -/

/-- Fed the triples `l` and anything after them, the machine goes from the registers of `s` to those of `r`. -/
def Leads (s : State) (l : List Inputs) (r : State) : Prop :=
  ∀ rest e, rest ≠ [] → Fed (withEnvironment s e) (l ++ rest) →
    ∃ e', runTicks l.length (withEnvironment s e) = .next (withEnvironment r e') ∧ Fed (withEnvironment r e') rest

theorem leads_of_runTicks {s r : State} {l : List Inputs} (hl : s.cfg.legal = true)
    (h : ∀ rest e, Fed (withEnvironment s e) (l ++ rest) →
      ∃ e', runTicks l.length (withEnvironment s e) = .next (withEnvironment r e')) : Leads s l r := by
  intro rest e hne hfed
  obtain ⟨e', hrun⟩ := h rest e hfed
  have hlen : l.length < (l ++ rest).length := by
    have := List.length_pos_of_ne_nil hne
    rw [List.length_append]
    omega
  have hrest := hfed.runTicks hl hlen hrun
  rw [List.drop_left] at hrest
  exact ⟨e', hrun, hrest⟩

theorem Leads.trans {s r t : State} {l l' : List Inputs} (h : Leads s l r) (h' : Leads r l' t)
    (hl : s.cfg.legal = true) : Leads s (l ++ l') t := by
  intro rest e hne hfed
  rw [List.append_assoc] at hfed
  obtain ⟨e₁, hrun₁, hfed₁⟩ := h (l' ++ rest) e (List.append_ne_nil_of_right_ne_nil l' hne) hfed
  obtain ⟨e₂, hrun₂, hfed₂⟩ := h' rest e₁ hne hfed₁
  refine ⟨e₂, ?_, hfed₂⟩
  rw [List.length_append, runTicks_add (by exact hl) hrun₁, hrun₂]

/-- One tick without a strobe that does not read the level. -/
theorem leads_tick {s r : State} (hl : s.cfg.legal = true) (i : Inputs)
    (h : ∀ e : State, e.inp.rst = false → afterTick (withEnvironment s e) = withEnvironment r e) : Leads s [i] r := by
  refine leads_of_runTicks hl fun rest e hfed => ?_
  obtain ⟨hr, -⟩ := hfed.quiet _ (hfed.inputs ▸ List.mem_cons_self)
  rw [List.length_singleton, runTicks_succ 0 _ (by exact hl), runTicks_zero, h e hr, nextTick_eq_withEnvironment]
  exact ⟨_, rfl⟩

/-- A wait whose level comes after `m` other samples (R40). -/
theorem leads_wait {s : State} {level : Level} {n : Nat} (hl : s.cfg.legal = true)
    (hw : waitOf s.cfg s.st = some (level, n)) (hc : s.cnt = 0) {m : Nat} (hm : m < n) :
    Leads s (List.replicate m ⟨false, false, !level⟩ ++ [⟨false, false, level⟩]) (onMatch s.st { s with cnt := 0 }) := by
  refine leads_of_runTicks hl fun rest e hfed => ?_
  have hi : InputsAlong (withEnvironment s e) (m + 1) fun k i => i.rst = false ∧ (i.pinIn = level ↔ k = m) := by
    refine hfed.inputsAlong hl (by simp) fun k hk => ?_
    rcases Nat.lt_or_eq_of_le (Nat.le_of_lt_succ hk) with hk | rfl
    · simp [hk, Nat.ne_of_lt hk]
    · simp
  obtain ⟨e₁, e₂, hrun⟩ := runTicks_matched (s := withEnvironment s e) hl hw hc hm hi
  rw [List.length_append, List.length_replicate, List.length_singleton, hrun]
  exact ⟨e₂, congrArg Host.Outcome.next (withEnvironment_onMatch s.st { s with cnt := 0 } e₁ e₂)⟩

/-- A delay in full, `i` being the inputs of its last tick (R41). -/
theorem leads_delay {s : State} {l : List Inputs} (i : Inputs) (hl : s.cfg.legal = true)
    (hd : delayOf s.cfg s.st = some (l.length + 1)) (hc : s.cnt = 0) :
    Leads s (l ++ [i]) (onDelayEnd s.st { s with cnt := 0, inp := i }) := by
  refine leads_of_runTicks hl fun rest e hfed => ?_
  have hrun := runTicks_eq l.length (withEnvironment s e) hl
  generalize (fun u => nextTick (afterTick u))^[l.length] (withEnvironment s e) = u at hrun
  obtain rfl : u.inp = i := by
    rw [hfed.inp hl (by simp) hrun]
    simp
  obtain ⟨e₁, hend⟩ := runTicks_delay_of_last (s := withEnvironment s e) hl hd hc (hfed.noReset hl (by simp)) hrun
  rw [List.length_append, List.length_singleton, hend]
  exact ⟨e₁, congrArg Host.Outcome.next (withEnvironment_onDelayEnd s.st { s with cnt := 0 } u e₁)⟩

/-- A delay on a line that does not change. -/
theorem leads_delay_replicate {s : State} {n : Nat} (i : Inputs) (hl : s.cfg.legal = true)
    (hd : delayOf s.cfg s.st = some n) (hc : s.cnt = 0) :
    Leads s (List.replicate n i) (onDelayEnd s.st { s with cnt := 0, inp := i }) := by
  obtain ⟨m, rfl⟩ : ∃ m, n = m + 1 :=
    Nat.exists_eq_succ_of_ne_zero (Nat.one_le_iff_ne_zero.1 (ticksOf_pos hl (ticksOf_of_delayOf hd)))
  rw [List.replicate_succ']
  exact leads_delay i hl (by rw [List.length_replicate]; exact hd) hc

/-! ### What a transaction's triples do to the block, stage by stage (R98, R102) -/

/-- The state `code` on entry, with the counter cleared. -/
def enter (code : StateCode) (s : State) : State := { s with st := code, cnt := 0 }

theorem legal_of_default {c : Config} (h : c = Config.default) : c.legal = true := by
  rw [h]
  decide

/-- The triples of the host pulse and of the sensor's answer up to BIT_START's first tick. -/
def initiationTicks : List Inputs :=
  highTicks 1 ++ hostPulseTicks ++ ((highTicks 10 ++ lowTicks 1) ++ (lowTicks 79 ++ highTicks 1))

/-- WAIT_IDLE, DRIVE_LOW, DRIVE_HIGH, ACK_LOW and ACK_HIGH. -/
theorem leads_initiation {s : State} (hcfg : s.cfg = Config.default) :
    Leads (enter 1#4 s) initiationTicks (enter 6#4 { s with pull := true }) := by
  have hl := legal_of_default hcfg
  have hIdle : Leads (enter 1#4 s) (highTicks 1) (enter 2#4 s) :=
    leads_wait (m := 0) (n := s.cfg.tIdle) (by exact hl) rfl rfl (by rw [hcfg]; decide)
  have hLow : Leads (enter 2#4 s) (lowTicks 20000) (enter 3#4 { s with pull := true }) :=
    leads_delay_replicate ⟨false, false, false⟩ (by exact hl) (congrArg (fun c : Config => some c.holdLow) hcfg) rfl
  have hHigh : Leads (enter 3#4 { s with pull := true }) (highTicks 30) (enter 4#4 { s with pull := true }) :=
    leads_delay_replicate ⟨false, false, true⟩ (by exact hl) (congrArg (fun c : Config => some c.release) hcfg) rfl
  have hAckLow : Leads (enter 4#4 { s with pull := true }) (highTicks 10 ++ lowTicks 1)
      (enter 5#4 { s with pull := true }) :=
    leads_wait (level := false) (m := 10) (n := s.cfg.tAck) (by exact hl) rfl rfl (by rw [hcfg]; decide)
  have hAckHigh : Leads (enter 5#4 { s with pull := true }) (lowTicks 79 ++ highTicks 1)
      (enter 6#4 { s with pull := true }) :=
    leads_wait (level := true) (m := 79) (n := s.cfg.tAck) (by exact hl) rfl rfl (by rw [hcfg]; decide)
  exact (hIdle.trans (hLow.trans hHigh hl) hl).trans (hAckLow.trans hAckHigh hl) hl

/-- A symbol's low tick, the triples of BIT_SETTLE with the sample last, and those of BIT_END. -/
def symbolHead (bit : Bool) : List Inputs :=
  lowTicks 1 ++ (((if bit then lowTicks 19 ++ highTicks 20 else lowTicks 39) ++ [⟨false, false, bit⟩]) ++
    (lowTicks (if bit then 0 else 9) ++ highTicks 1))

/-- What is left of a symbol when BIT_END has ended. -/
def symbolRest (bit : Bool) : List Inputs := highTicks (if bit then 38 else 29)

theorem symbolTicks_eq (bit : Bool) : symbolTicks bit = symbolHead bit ++ symbolRest bit := by
  cases bit <;> rfl

theorem symbolHead_length (bit : Bool) : (symbolHead bit).length = if bit then 42 else 51 := by
  cases bit <;> rfl

/-- BIT_SETTLE in full writes the sample to element `idx`. -/
theorem leads_settle {s : State} (hcfg : s.cfg = Config.default) (hidx : s.idx.toNat < 40) {l : List Inputs}
    (hlen : l.length = 39) (bit : Bool) :
    Leads (enter 7#4 s) (l ++ [⟨false, false, bit⟩])
      (enter 8#4 { s with bitbuf := s.bitbuf.set s.idx.toNat bit hidx }) := by
  have hd : delayOf s.cfg 7#4 = some (l.length + 1) := by rw [hcfg, hlen]; rfl
  have hend : onDelayEnd 7#4 { enter 7#4 s with inp := ⟨false, false, bit⟩ } =
      enter 8#4 { s with bitbuf := s.bitbuf.set s.idx.toNat bit hidx, inp := ⟨false, false, bit⟩ } :=
    congrArg (goTo stBitEnd) (dif_pos (Nat.le_of_lt_succ hidx))
  have h := leads_delay (s := enter 7#4 s) ⟨false, false, bit⟩ (legal_of_default hcfg) hd rfl
  change Leads _ _ (onDelayEnd 7#4 { enter 7#4 s with inp := _ }) at h
  rw [hend] at h
  exact h

/-- BIT_START, BIT_SETTLE and BIT_END on the triples of one bit, whose low level comes after `h` high ticks. -/
theorem leads_bit {s : State} (hcfg : s.cfg = Config.default) (hidx : s.idx.toNat < 40) {h : Nat} (hh : h < 75)
    (bit : Bool) : Leads (enter 6#4 s) (highTicks h ++ symbolHead bit)
      (nextBit (enter 8#4 { s with bitbuf := s.bitbuf.set s.idx.toNat bit hidx })) := by
  have hl := legal_of_default hcfg
  have hStart : Leads (enter 6#4 s) (highTicks h ++ lowTicks 1) (enter 7#4 s) :=
    leads_wait (level := false) (m := h) (n := s.cfg.tBitStart) (by exact hl) rfl rfl (by rw [hcfg]; exact hh)
  have hSettle := leads_settle hcfg hidx (l := if bit then lowTicks 19 ++ highTicks 20 else lowTicks 39)
    (by cases bit <;> rfl) bit
  have hEnd := leads_wait (s := enter 8#4 { s with bitbuf := s.bitbuf.set s.idx.toNat bit hidx }) (level := true)
    (m := if bit then 0 else 9) (n := s.cfg.tBitEnd) hl rfl rfl (by rw [hcfg]; cases bit <;> decide)
  have hall := hStart.trans (hSettle.trans hEnd hl) hl
  rw [List.append_assoc] at hall
  exact hall

theorem nextBit_enter_last {s : State} (h : s.idx = 39#6) (code : StateCode) :
    nextBit (enter code s) = enter 9#4 s :=
  if_pos (by rw [enter, h]; decide)

theorem nextBit_enter_next {s : State} (h : s.idx.toNat < 39) (code : StateCode) :
    nextBit (enter code s) = enter 6#4 { s with idx := s.idx + 1#6 } :=
  if_neg (Nat.not_le.2 h)

/-- Writing the next bit of `w` extends the part of `w` that the buffer holds. -/
theorem getElem_set_eq_of_drop_eq {w b : Vector Bool 40} {k : Nat} {x : Bool} {rest : List Bool} (hk : k < 40)
    (hw : w.toList.drop k = x :: rest) (hb : ∀ j (hj : j < 40), j < k → b[j] = w[j]) (j : Nat) (hj : j < 40)
    (hle : j ≤ k) : (b.set k x hk)[j] = w[j] := by
  rcases Nat.lt_or_eq_of_le hle with hlt | rfl
  · rw [Vector.getElem_set_ne _ _ (by omega)]
    exact hb j hj hlt
  · rw [Vector.getElem_set_self]
    rw [List.drop_eq_getElem_cons (by simpa using hk)] at hw
    simpa using (List.cons.inj hw).1.symm

/-- The position of the bits up to the last one of forty. -/
theorem add_length_of_drop_eq {w : Vector Bool 40} {k : Nat} {bits : List Bool} {last : Bool}
    (hw : w.toList.drop k = bits ++ [last]) : k + bits.length = 39 := by
  have hlen := congrArg List.length hw
  rw [List.length_drop, Vector.length_toList, List.length_append, List.length_singleton] at hlen
  omega

/-- The bits from `idx` on, the last of them up to BIT_END, complete the buffer and lead to ASSEMBLE. -/
theorem leads_bits {w : Vector Bool 40} {last : Bool} {bits : List Bool} {s : State} (hcfg : s.cfg = Config.default)
    {h : Nat} (hh : h < 75) (hw : w.toList.drop s.idx.toNat = bits ++ [last])
    (hb : ∀ j (hj : j < 40), j < s.idx.toNat → s.bitbuf[j] = w[j]) :
    Leads (enter 6#4 s) (highTicks h ++ (bits.flatMap symbolTicks ++ symbolHead last))
      (enter 9#4 { s with idx := 39#6, bitbuf := w }) := by
  induction bits generalizing s h with
  | nil =>
    have hpos : s.idx.toNat = 39 := add_length_of_drop_eq hw
    have hlast : s.idx = 39#6 := BitVec.eq_of_toNat_eq hpos
    have hidx : s.idx.toNat < 40 := by omega
    have hfull : s.bitbuf.set s.idx.toNat last hidx = w :=
      Vector.ext fun j hj => getElem_set_eq_of_drop_eq hidx hw hb j hj (by omega)
    have hbit := leads_bit hcfg hidx hh last
    rw [nextBit_enter_last (by exact hlast), hfull] at hbit
    rw [← hlast]
    exact hbit
  | cons x bits ih =>
    have hpos : s.idx.toNat + (bits.length + 1) = 39 := add_length_of_drop_eq hw
    have hidx : s.idx.toNat < 40 := by omega
    have hnext : (s.idx + 1#6).toNat = s.idx.toNat + 1 := by
      rw [BitVec.toNat_add]
      exact Nat.mod_eq_of_lt (by simp; omega)
    have hbit := leads_bit hcfg hidx hh x
    rw [nextBit_enter_next (by dsimp only; omega)] at hbit
    have hrest := ih (s := { s with idx := s.idx + 1#6, bitbuf := s.bitbuf.set s.idx.toNat x hidx })
      (h := if x then 38 else 29) hcfg (by cases x <;> decide)
      (by rw [hnext, ← List.drop_drop, hw]; rfl)
      (fun j hj hlt => getElem_set_eq_of_drop_eq hidx hw hb j hj (by rw [hnext] at hlt; omega))
    have hall := hbit.trans hrest (legal_of_default hcfg)
    rw [List.flatMap_cons, symbolTicks_eq]
    simpa [symbolRest] using hall

/-- The triples after START up to ASSEMBLE's first tick, for the forty bits `w`. -/
def ticksToAssemble (w : Vector Bool 40) : List Inputs :=
  initiationTicks ++ (highTicks 69 ++ ((w.toList.take 39).flatMap symbolTicks ++ symbolHead w[39]))

theorem ticksToAssemble_length (w : Vector Bool 40) :
    (ticksToAssemble w).length = if w[39] then 23353 else 23362 := by
  have hbits : ((w.toList.take 39).flatMap symbolTicks).length = 39 * 80 := by
    simp [List.length_flatMap]
  have hinit : initiationTicks.length = 20122 := by simp [initiationTicks, hostPulseTicks]
  simp only [ticksToAssemble, List.length_append, hbits, hinit, highTicks_length, symbolHead_length]
  split <;> rfl

/-- Thirty-nine bits and the last. -/
theorem toList_eq_take_append (w : Vector Bool 40) : w.toList = w.toList.take 39 ++ [w[39]] := by
  have hlast : w.toList[39]'(by simp) = w[39] := by simp
  rw [← hlast, List.take_append_getElem, List.take_of_length_le (by simp)]

/-- From WAIT_IDLE with the index cleared the forty bits are received. -/
theorem leads_toAssemble {s : State} (hcfg : s.cfg = Config.default) (hidx : s.idx = 0#6) (w : Vector Bool 40) :
    Leads (enter 1#4 s) (ticksToAssemble w) (enter 9#4 { s with pull := true, idx := 39#6, bitbuf := w }) := by
  have hw : w.toList.drop s.idx.toNat = w.toList.take 39 ++ [w[39]] := by
    rw [hidx]
    exact toList_eq_take_append w
  refine (leads_initiation hcfg).trans ?_ (legal_of_default hcfg)
  exact leads_bits (s := { s with pull := true }) hcfg (by decide) hw fun j _ hlt => by
    simp [hidx] at hlt

theorem quiet_symbolHead (bit : Bool) : Quiet (symbolHead bit) := by
  cases bit <;> simp [symbolHead]

theorem quiet_ticksToAssemble (w : Vector Bool 40) : Quiet (ticksToAssemble w) := by
  simp [ticksToAssemble, initiationTicks, hostPulseTicks, quiet_symbolHead, quiet_flatMap_symbolTicks]

/-! ### The bits sent and the frame received (R62, R102, R160) -/

/-- The forty bits of five bytes in the order in which they are sent: each byte from bit 7 down to bit 0. -/
def sentBits (f : Vector Byte 5) : Vector Bool 40 := Vector.ofFn fun i => f[i.val / 8].getLsbD (7 - i.val % 8)

/-- The frame packed from the bits sent is the five bytes. -/
theorem packFrame_sentBits (f : Vector Byte 5) : packFrame (sentBits f) = f := by
  refine Vector.ext fun j hj => BitVec.eq_of_getLsbD_eq fun i hi => ?_
  have hbit := packByte_bit (sentBits f) (8 * j) (by omega) (7 - i) (by omega)
  have hpos : 7 - (7 - i) = i := by omega
  have hbyte : (8 * j + (7 - i)) / 8 = j := by omega
  have hmod : 7 - (7 - i) % 8 = i := by omega
  rw [hpos] at hbit
  rw [packFrame_byte _ j hj, hbit]
  simp [sentBits, hbyte, hmod]

theorem sentBits_toList (a b c d e : Byte) : (sentBits #v[a, b, c, d, e]).toList =
    [a, b, c, d, e].flatMap fun v => [7, 6, 5, 4, 3, 2, 1, 0].map v.getLsbD := by
  unfold sentBits
  rw [Vector.toList_ofFn]
  rfl

/-- FRAME is the symbols of the forty bits sent (R102). -/
theorem frameTicks_eq_flatMap (a b c d e : Byte) :
    frameTicks a b c d e = (sentBits #v[a, b, c, d, e]).toList.flatMap symbolTicks := by
  rw [sentBits_toList]
  simp [frameTicks, byteTicks]

theorem ackTicks_eq : ackTicks = (highTicks 10 ++ lowTicks 1) ++ (lowTicks 79 ++ highTicks 1) ++ highTicks 69 := rfl

/-- TXN in the order in which the block reads it (R102). -/
theorem txnTicks_eq (a b c d e : Byte) : txnTicks a b c d e =
    ⟨false, true, true⟩ :: (ticksToAssemble (sentBits #v[a, b, c, d, e]) ++ symbolRest e[0]) := by
  have hlast : (sentBits #v[a, b, c, d, e])[39] = e[0] := by simp [sentBits]
  rw [txnTicks, startTick, frameTicks_eq_flatMap, ackTicks_eq, toList_eq_take_append]
  simp only [ticksToAssemble, initiationTicks, List.flatMap_append, List.flatMap_singleton, symbolTicks_eq, hlast,
    List.append_assoc, List.cons_append, List.nil_append]

/-! ### A whole transaction -/

theorem leads_assemble {s : State} (hl : s.cfg.legal = true) (i : Inputs) :
    Leads (enter 9#4 s) [i] (enter 10#4 { s with frame := packFrame s.bitbuf }) :=
  leads_tick (s := enter 9#4 s) hl i fun e hr => afterTick_assemble (s := withEnvironment (enter 9#4 s) e) hr rfl

theorem leads_validate {s : State} (hl : s.cfg.legal = true) (i : Inputs) :
    Leads (enter 10#4 s) [i]
      (enter 0#4 (if frameValid s.frame then commitReading s else raiseChecksumMismatch s)) := by
  refine leads_tick (s := enter 10#4 s) hl i fun e hr => ?_
  rw [afterTick_validate (s := withEnvironment (enter 10#4 s) e) hr rfl]
  change goTo stIdle (if frameValid s.frame then _ else _) = _
  split <;> rfl

/-- What VALIDATE finds: the registers of the acceptance with the bits `w` received and packed. -/
def received (w : Vector Bool 40) (s : State) : State :=
  { acceptTransaction s with pull := true, idx := 39#6, bitbuf := w, frame := packFrame w }

/-- A START tick in IDLE with the triples of the bits `w` pending: the block is busy up to VALIDATE, which decides. -/
theorem runTicks_transaction {s : State} {w : Vector Bool 40} {m : Nat} (hcfg : s.cfg = Config.default)
    (hst : s.st = 0#4) (hfree : s.host = .free) (hr : s.inp.rst = false) (hs : s.inp.start = true)
    (hp : s.pending = (ticksToAssemble w ++ highTicks 1) ++ highTicks (m + 2)) :
    (∀ k, k ≤ (ticksToAssemble w).length + 1 → ∃ u, runTicks (k + 1) s = .next u ∧ busy u = true) ∧
    ∃ e, runTicks ((ticksToAssemble w).length + 3) s = .next (withEnvironment (enter 0#4
      (if frameValid (packFrame w) then commitReading (received w s) else raiseChecksumMismatch (received w s))) e) := by
  have hl := legal_of_default hcfg
  have hfirst : runTicks 1 s = .next (nextTick (acceptTransaction s)) := by
    rw [runTicks_succ 0 s hl, runTicks_zero, afterTick_idle hr hst, if_pos hs]
  have hfed : Fed (nextTick (acceptTransaction s)) ((ticksToAssemble w ++ highTicks 1) ++ highTicks (m + 2)) := by
    rw [← hp]
    exact fed_nextTick hfree (by simp [hp, highTicks_succ]) (by simp [hp, quiet_ticksToAssemble])
  have hl' : (nextTick (acceptTransaction s)).cfg.legal = true := by simpa using hl
  rw [nextTick_eq_withEnvironment] at hfirst hfed hl'
  have hvalidate : Leads (acceptTransaction s) (ticksToAssemble w ++ highTicks 1) (enter 10#4 (received w s)) :=
    (leads_toAssemble (s := acceptTransaction s) hcfg rfl w).trans (leads_assemble (by exact hl) _) (by exact hl)
  obtain ⟨e, hrun, hlast⟩ := hvalidate _ _ (by simp [highTicks_succ]) hfed
  rw [List.length_append, highTicks_length] at hrun
  constructor
  · intro k hk
    rw [Nat.add_comm, runTicks_add hl hfirst]
    exact hfed.busy_before hl' (by simp) hrun (by simp [withEnvironment, enter]) hk
  · obtain ⟨e', hend, -⟩ := leads_validate (s := received w s) (by exact hl) ⟨false, false, true⟩ (highTicks (m + 1)) e
      (by simp [highTicks_succ]) hlast
    refine ⟨e', ?_⟩
    have htotal : (ticksToAssemble w).length + 3 = 1 + ((ticksToAssemble w).length + 1 + 1) := by omega
    rw [htotal, runTicks_add hl hfirst, runTicks_add hl' hrun]
    exact hend

/-- Settles O49: the triples of TXN are START's and those of the bits sent, whose packing is the five bytes. -/
theorem transactionReceivesTheBytesSent : Obligations.TransactionReceivesTheBytesSent := by
  unfold Obligations.TransactionReceivesTheBytesSent
  intro s a b c d e hcfg hst
  have hlast : (sentBits #v[a, b, c, d, e])[39] = e[0] := by simp [sentBits]
  have hlen := ticksToAssemble_length (sentBits #v[a, b, c, d, e])
  obtain ⟨m, hm⟩ : ∃ m, symbolRest e[0] = highTicks 1 ++ highTicks (m + 2) := by
    cases e[0] <;> exact ⟨_, rfl⟩
  have hframe := packFrame_sentBits #v[a, b, c, d, e]
  rw [txnTicks_eq, hm, ← List.append_assoc, loadTicks_cons]
  generalize sentBits #v[a, b, c, d, e] = w at hlast hlen hframe
  intro s0 n ok
  have hn : n = (ticksToAssemble w).length + 3 := by
    rw [hlen, hlast]
    simp only [n]
    split <;> rfl
  obtain ⟨hbusy, e', hrun⟩ := runTicks_transaction (s := s0) hcfg hst rfl rfl rfl rfl
  have hok : frameValid (packFrame w) = true ↔ ok := by
    rw [hframe, frameValid_iff]
    rfl
  rw [hn]
  refine ⟨fun k hpos hk => ?_, _, hrun, ?_⟩
  · obtain ⟨j, rfl⟩ := Nat.exists_eq_succ_of_ne_zero (Nat.ne_of_gt hpos)
    exact hbusy j (by omega)
  · by_cases h : ok
    · rw [if_pos (hok.2 h), if_pos h, if_pos h, if_pos h]
      exact ⟨rfl, hframe, rfl, rfl, congrArg (·[0]) hframe, congrArg (·[2]) hframe, rfl⟩
    · rw [if_neg (mt hok.1 h), if_neg h, if_neg h, if_neg h]
      exact ⟨rfl, hframe, rfl, rfl, rfl, rfl, rfl⟩

end Sys2Proof.Machine

/-! ## Proofs for spec/40_transaction_initiator.md: the initiator's rows, `start` while busy, a failed initiation -/

namespace Sys2Proof.Machine

/-! ### `start` while busy (R126) -/

/-- The state with another value on `start`. -/
def withStart (b : Bool) (s : State) : State := { s with inp := { s.inp with start := b } }

section
variable (b : Bool)

/-- A bounded wait does not read `start`, if what follows it does not. -/
theorem waitLevel_withStart {next : State → State} (hn : ∀ u, next (withStart b u) = withStart b (next u))
    (level : Level) (bound : Nat) (self : StateCode) (s : State) :
    waitLevel level bound self next (withStart b s) = withStart b (waitLevel level bound self next s) := by
  simp only [waitLevel, apply_ite (withStart b), ← hn]
  rfl

/-- A fixed delay does not read `start`, if what follows it does not. -/
theorem delayTicks_withStart {next : State → State} (hn : ∀ u, next (withStart b u) = withStart b (next u))
    (length : Nat) (s : State) :
    delayTicks length next (withStart b s) = withStart b (delayTicks length next s) := by
  simp only [delayTicks, apply_ite (withStart b), ← hn]
  rfl

theorem nextBit_withStart (s : State) : nextBit (withStart b s) = withStart b (nextBit s) := by
  simp only [nextBit, apply_ite (withStart b)]
  rfl

theorem memWriteBit_withStart (i : BitIndex) (v : Bool) (s : State) :
    memWriteBit i v (withStart b s) = withStart b (memWriteBit i v s) := by
  unfold memWriteBit
  split <;> rfl

theorem onMatch_withStart (c : StateCode) (s : State) : onMatch c (withStart b s) = withStart b (onMatch c s) := by
  unfold onMatch
  split
  case h_5 => exact nextBit_withStart b s
  all_goals rfl

theorem onDelayEnd_withStart (c : StateCode) (s : State) :
    onDelayEnd c (withStart b s) = withStart b (onDelayEnd c s) := by
  unfold onDelayEnd
  split
  case h_3 => exact congrArg (goTo stBitEnd) (memWriteBit_withStart b s.idx s.inp.pinIn s)
  all_goals rfl

/-- In every state but IDLE a tick does not read `start`. -/
theorem afterTick_withStart {s : State} (h : s.st ≠ 0#4) : afterTick (withStart b s) = withStart b (afterTick s) := by
  cases hr : s.inp.rst
  case true =>
    rw [afterTick_rst hr, afterTick_rst (s := withStart b s) hr]
    rfl
  case false =>
    have hr' : (withStart b s).inp.rst = false := hr
    rcases stateCode_kinds s.cfg s.st with hst | ⟨level, n, hw⟩ | ⟨n, hd⟩ | hst | hst | hst
    · exact absurd hst h
    · rw [afterTick_wait hr hw, afterTick_wait hr' hw]
      exact waitLevel_withStart b (onMatch_withStart b s.st) level n s.st s
    · rw [afterTick_delay hr hd, afterTick_delay hr' hd]
      exact delayTicks_withStart b (onDelayEnd_withStart b s.st) n s
    · rw [afterTick_assemble hr hst, afterTick_assemble hr' hst]
      rfl
    · rw [afterTick_validate hr hst, afterTick_validate hr' hst]
      change goTo stIdle (if frameValid s.frame then _ else _) = _
      split <;> rfl
    · rw [afterTick_reserved hr hst, afterTick_reserved hr' hst]
      rfl

end

/-- Settles O30: the tick passes `start` on unread, and the next tick's ports do not depend on it. -/
theorem startIsNotReadWhileBusy : Obligations.StartIsNotReadWhileBusy := by
  unfold Obligations.StartIsNotReadWhileBusy
  intro s b h
  change step (withStart b s) = step s
  cases hl : s.cfg.legal
  case false => rw [step_illegal s hl, step_illegal (withStart b s) hl]
  case true =>
    rw [step_eq s hl, step_eq (withStart b s) hl, afterTick_withStart b h]
    exact congrArg _ (nextTick_inputs (afterTick s) { (afterTick s).inp with start := b } rfl)

/-! ### A failed initiation (R127) -/

/-- A wait state that is left for IDLE without a reset has timed out (R92, R203). -/
theorem afterTick_of_abort {s : State} (hr : s.inp.rst = false) (hst : s.st ∈ [1#4, 4#4, 5#4, 6#4, 8#4])
    (hidle : (afterTick s).st = 0#4) : afterTick s = raiseTimeout s.st s := by
  obtain ⟨level, n, hw⟩ := waitOf_of_mem s.cfg hst
  rw [afterTick_wait hr hw] at hidle ⊢
  rcases waitLevel_cases level n s.st (onMatch s.st) s (ticksOf_le_largest (ticksOf_of_waitOf hw)) with
    ⟨-, h⟩ | ⟨-, -, h⟩ | ⟨-, -, h⟩
  · rw [h, onMatch_st hw] at hidle
    split_ifs at hidle <;> cases hidle
  · exact h
  · have hidle' : s.st = 0#4 := by rwa [h] at hidle
    simp [hidle'] at hst

/-- Under the invariant no element of the buffer is set while the initiator runs, where `idx` is still 0 (R120). -/
theorem Inv.bitbuf_of_initiator {s : State} (h : Inv s) (h1 : 1 ≤ s.st.toNat) (h5 : s.st.toNat ≤ 5) :
    s.bitbuf = Vector.replicate 40 false := by
  have hidx : s.idx.toNat = 0 := by rw [h.idxInitiator h1 h5]; rfl
  have hst : s.st ≠ stBitEnd := fun hst => by simp [hst] at h5
  ext i hi
  rw [Vector.getElem_replicate]
  refine h.bitsUnsampled h1 (by omega) ⟨i, hi⟩ ?_
  rw [hidx]
  exact (Nat.eq_zero_or_pos i).symm.imp_right fun h0 => ⟨h0.symm, hst⟩

/-- The codes of the initiator's wait states are among those of all five, up to 5, and past WAIT_IDLE at least 3 (R90). -/
theorem initiatorWait_codes : ∀ c ∈ [1#4, 4#4, 5#4],
    c ∈ [1#4, 4#4, 5#4, 6#4, 8#4] ∧ 1 ≤ c.toNat ∧ c.toNat ≤ 5 ∧ (c ≠ 1#4 → 3 ≤ c.toNat) := by
  decide

/-- Settles O35: the tick is a timeout, which keeps what the invariant says of the initiator's states. -/
theorem failedInitiationLeavesNothingAssembled : Obligations.FailedInitiationLeavesNothingAssembled := by
  unfold Obligations.FailedInitiationLeavesNothingAssembled
  intro s t hinv hr hst ht hidle
  obtain ⟨-, rfl⟩ := step_next ht
  obtain ⟨hwait, h1, h5, h3⟩ := initiatorWait_codes s.st hst
  rw [nextTick_st] at hidle
  rw [afterTick_of_abort hr hwait hidle]
  simp only [nextTick_status, nextTick_frame, nextTick_bitbuf, nextTick_idx, nextTick_hum, nextTick_temp, nextTick_pull]
  exact ⟨statusWord_toNat s.st codeTimeout, hinv.frameZero h1 (by omega), hinv.bitbuf_of_initiator h1 h5,
    hinv.idxInitiator h1 h5, rfl, rfl, by simp [pinOe], rfl, fun hne => hinv.pullRequested (h3 hne) (by omega)⟩

/-! ### The six states, row by row (R120 to R125) -/

/-- The bounded wait of a wait state counts without wrapping (R40, R44). -/
theorem waitLevel_eq {level : Level} {bound : Nat} {self : StateCode} {s : State}
    (hw : waitOf s.cfg self = some (level, bound)) (next : State → State) :
    waitLevel level bound self next s =
      if s.inp.pinIn = level then next { s with cnt := 0 }
      else if bound - 1 ≤ s.cnt then raiseTimeout self s else { s with cnt := s.cnt + 1 } := by
  rcases waitLevel_cases level bound self next s (ticksOf_le_largest (ticksOf_of_waitOf hw)) with
    ⟨hp, h⟩ | ⟨hp, hc, h⟩ | ⟨hp, hc, h⟩ <;> rw [h]
  · rw [if_pos hp]
  · rw [if_neg hp, if_pos hc]
  · rw [if_neg hp, if_neg (Nat.not_le.2 hc)]

/-- The delay of a delay state counts without wrapping (R41, R44). -/
theorem delayTicks_eq {length : Nat} {self : StateCode} {s : State} (hd : delayOf s.cfg self = some length)
    (next : State → State) :
    delayTicks length next s = if length - 1 ≤ s.cnt then next { s with cnt := 0 } else { s with cnt := s.cnt + 1 } := by
  rcases delayTicks_cases length next s (ticksOf_le_largest (ticksOf_of_delayOf hd)) with ⟨hc, h⟩ | ⟨hc, h⟩ <;> rw [h]
  · rw [if_pos hc]
  · rw [if_neg (Nat.not_le.2 hc)]

/-- Settles O9: the two branches are IDLE's definition. -/
theorem idleAcceptsOnStartElseRests : Obligations.IdleAcceptsOnStartElseRests :=
  fun _ => rfl

/-- Settles O13: the wait of state 1. -/
theorem waitIdleWaitsForHigh : Obligations.WaitIdleWaitsForHigh :=
  fun _ => congrArg _ (waitLevel_eq (self := 1#4) rfl (goTo stDriveLow))

/-- Settles O14: the delay of state 2. -/
theorem driveLowHoldsThenRequestsPullUp : Obligations.DriveLowHoldsThenRequestsPullUp :=
  fun _ => congrArg _ (delayTicks_eq (self := 2#4) rfl (onDelayEnd 2#4))

/-- Settles O15: the delay of state 3. -/
theorem driveHighHoldsThenReleases : Obligations.DriveHighHoldsThenReleases :=
  fun _ => congrArg _ (delayTicks_eq (self := 3#4) rfl (goTo stAckLow))

/-- Settles O16: the wait of state 4. -/
theorem ackLowWaitsForLow : Obligations.AckLowWaitsForLow :=
  fun _ => congrArg _ (waitLevel_eq (self := 4#4) rfl (goTo stAckHigh))

/-- Settles O17: the wait of state 5. -/
theorem ackHighWaitsForHigh : Obligations.AckHighWaitsForHigh :=
  fun _ => congrArg _ (waitLevel_eq (self := 5#4) rfl (goTo stBitStart))

end Sys2Proof.Machine

/-! ## Proofs for spec/41_bit_sampler.md: a failed sampling, the sampler's rows -/

namespace Sys2Proof.Machine

/-! ### A failed sampling (R144) -/

/-- The codes of the sampler's wait states are among those of all five, and between 1 and 8 (R90). -/
theorem samplerWait_codes : ∀ c ∈ [6#4, 8#4], c ∈ [1#4, 4#4, 5#4, 6#4, 8#4] ∧ 1 ≤ c.toNat ∧ c.toNat ≤ 8 := by
  decide

/-- Settles O36: the tick is a timeout, which keeps the buffer and what the invariant says of its unsampled elements. -/
theorem failedSamplingLeavesPartialBufferOnly : Obligations.FailedSamplingLeavesPartialBufferOnly := by
  unfold Obligations.FailedSamplingLeavesPartialBufferOnly
  intro s t hinv hr hst ht hidle
  obtain ⟨-, rfl⟩ := step_next ht
  obtain ⟨hwait, h1, h8⟩ := samplerWait_codes s.st hst
  rw [nextTick_st] at hidle
  rw [afterTick_of_abort hr hwait hidle]
  simp only [nextTick_status, nextTick_frame, nextTick_bitbuf, nextTick_idx, nextTick_hum, nextTick_temp]
  refine ⟨statusWord_toNat s.st codeTimeout, rfl, rfl, hinv.frameZero h1 (by omega), rfl, rfl, fun j hj => ?_⟩
  have hstart : s.st = 6#4 → s.st ≠ stBitEnd := fun h6 => by simp [h6]
  exact hinv.bitsUnsampled h1 h8 j (hj.imp_right (And.imp_right hstart))

/-! ### The three states, row by row (R140 to R142) -/

/-- Settles O18: the wait of state 6. -/
theorem bitStartWaitsForLow : Obligations.BitStartWaitsForLow :=
  fun _ => congrArg _ (waitLevel_eq (self := 6#4) rfl (goTo stBitSettle))

/-- BIT_SETTLE is the delay of state 7 (R141). -/
theorem exec_bitSettle (s : State) : exec .bitSettle s = .next
    (if s.cfg.settle - 1 ≤ s.cnt then goTo stBitEnd (memWriteBit s.idx s.inp.pinIn { s with cnt := 0 })
    else { s with cnt := s.cnt + 1 }) :=
  congrArg _ (delayTicks_eq (self := 7#4) rfl (onDelayEnd 7#4))

/-- Settles O19: the delay's last tick writes the buffer as `memWriteBit` does. -/
theorem bitSettleSamplesOnItsLastTick : Obligations.BitSettleSamplesOnItsLastTick := by
  unfold Obligations.BitSettleSamplesOnItsLastTick
  refine fun s => ⟨fun hc => ?_, fun hc => ?_⟩
  · rw [exec_bitSettle, if_neg (Nat.not_le.2 hc)]
  · obtain ⟨b, hb⟩ := memWriteBit_writes s.idx s.inp.pinIn { s with cnt := 0 }
    have hbits := memWriteBit_bitbuf s.idx s.inp.pinIn { s with cnt := 0 }
    rw [hb] at hbits
    rw [exec_bitSettle, if_pos hc, hb]
    exact ⟨b, rfl, fun j => hbits j.val j.isLt⟩

/-- Settles O20: the wait of state 8. -/
theorem bitEndWaitsForHighThenNextBit : Obligations.BitEndWaitsForHighThenNextBit :=
  fun _ => congrArg _ (waitLevel_eq (self := 8#4) rfl nextBit)

end Sys2Proof.Machine

/-! ## Proofs for spec/42_frame_assembler.md: the packing of the buffer -/

namespace Sys2Proof.Machine

/-- ASSEMBLE writes the buffer's packing and enters VALIDATE (R160). -/
theorem exec_assemble (s : State) :
    exec .assemble s = .next { s with frame := packFrame s.bitbuf, st := 10#4 } := rfl

/-! ### The value of a byte (R96) -/

/-- A word's number is the sum of its bits' weights, the most significant bit first (R96). -/
theorem toNat_eq_sum_getMsbD {n : Nat} (v : BitVec n) :
    v.toNat = ∑ j : Fin n, (v.getMsbD j).toNat * 2 ^ (n - 1 - j.val) := by
  induction n with
  | zero => simp [BitVec.of_length_zero (x := v)]
  | succ n ih =>
    obtain ⟨a, w, rfl⟩ : ∃ a w, v = BitVec.cons a w := ⟨_, _, (BitVec.cons_msb_setWidth v).symm⟩
    calc (BitVec.cons a w).toNat
        = a.toNat * 2 ^ n + w.toNat := by
          rw [BitVec.toNat_cons, ← Nat.shiftLeft_add_eq_or_of_lt w.isLt, Nat.shiftLeft_eq]
      _ = a.toNat * 2 ^ n + ∑ j : Fin n, (w.getMsbD j).toNat * 2 ^ (n - 1 - j.val) := by rw [← ih w]
      _ = ∑ j : Fin (n + 1), ((BitVec.cons a w).getMsbD j).toNat * 2 ^ (n + 1 - 1 - j.val) := by
          simp [Fin.sum_univ_succ, Nat.sub_sub, Nat.add_comm 1]

/-- A packed byte's number is the sum of its elements' weights, the first element's weight 128 (R96). -/
theorem packByte_toNat (b : Vector Bool 40) (k : Nat) (h : k + 8 ≤ 40) :
    (packByte b k h).toNat = ∑ j : Fin 8, (b[k + j.val]'(by omega)).toNat * 2 ^ (7 - j.val) := by
  rw [toNat_eq_sum_getMsbD]
  refine Finset.sum_congr rfl fun j _ => ?_
  rw [BitVec.getMsbD_eq_getLsbD, decide_eq_true j.isLt, Bool.true_and, packByte_bit b k h j.val j.isLt]

/-- Settles O21: the five bytes are those of the packing, each of them the sum of its elements' weights. -/
theorem assemblePacksMostSignificantBitFirst : Obligations.AssemblePacksMostSignificantBitFirst := by
  unfold Obligations.AssemblePacksMostSignificantBitFirst
  refine fun s => ⟨packFrame s.bitbuf, exec_assemble s, fun i => ?_⟩
  exact (congrArg BitVec.toNat (packFrame_byte s.bitbuf i.val i.isLt)).trans (packByte_toNat s.bitbuf (8 * i.val) _)

/-! ### Unpacking (R161) -/

/-- The buffer of a frame: element `k` is bit `39 - k` of the frame as one number (R64). -/
def unpackFrame (f : Vector Byte 5) : Vector Bool 40 :=
  Vector.ofFn fun k => (frameNumber f).getLsbD (39 - k.val)

theorem unpackFrame_bit (f : Vector Byte 5) (k : Nat) (hk : k < 40) :
    (unpackFrame f)[k] = (frameNumber f).getLsbD (39 - k) :=
  Vector.getElem_ofFn hk

/-- The buffer can be read back from its packing. -/
theorem unpackFrame_packFrame (b : Vector Bool 40) : unpackFrame (packFrame b) = b := by
  ext k hk
  rw [unpackFrame_bit (packFrame b) k hk, frameNumber_packFrame_bit b k hk]

/-- The frame as one number determines its five bytes (R64). -/
theorem frameNumber_injective : Function.Injective frameNumber := by
  intro f g h
  ext j hj : 1
  rw [← frameNumber_byte f j hj, ← frameNumber_byte g j hj, h]

/-- Every frame is the packing of the buffer read from it: as numbers, the two frames have the same forty bits. -/
theorem packFrame_unpackFrame (f : Vector Byte 5) : packFrame (unpackFrame f) = f := by
  apply frameNumber_injective
  apply BitVec.eq_of_getLsbD_eq
  intro i hi
  have hpos : 39 - (39 - i) = i := by omega
  calc (frameNumber (packFrame (unpackFrame f))).getLsbD i
      = (frameNumber (packFrame (unpackFrame f))).getLsbD (39 - (39 - i)) := by rw [hpos]
    _ = (unpackFrame f)[39 - i] := frameNumber_packFrame_bit (unpackFrame f) (39 - i) (by omega)
    _ = (frameNumber f).getLsbD (39 - (39 - i)) := unpackFrame_bit f (39 - i) (by omega)
    _ = (frameNumber f).getLsbD i := by rw [hpos]

/-- Settles O39: `unpackFrame` is the packing's inverse on both sides. -/
theorem packingIsABijection : Obligations.PackingIsABijection := by
  unfold Obligations.PackingIsABijection
  refine fun s f => ⟨unpackFrame f, ⟨_, exec_assemble _, packFrame_unpackFrame f⟩, fun b t ht hf => ?_⟩
  have hpack : packFrame b = f := (exec_assemble_frame ht).symm.trans hf
  rw [← hpack, unpackFrame_packFrame]

end Sys2Proof.Machine

/-! ## Proofs for spec/43_checksum_validator.md: the two outcomes of VALIDATE -/

namespace Sys2Proof.Machine

/-- VALIDATE commits or rejects by the checksum alone, and enters IDLE (R170). -/
theorem exec_validate (s : State) :
    exec .validate s = .next (goTo stIdle (if frameValid s.frame then commitReading s else raiseChecksumMismatch s)) :=
  rfl

/-- A frame whose checksum matches is committed (R171, R172). -/
theorem exec_validate_of_frameValid {s : State} (hv : frameValid s.frame = true) :
    exec .validate s = .next { s with hum := s.frame[0], temp := s.frame[2], status := 0x01#6, st := 0#4 } := by
  rw [exec_validate, if_pos hv]
  rfl

/-- A frame whose checksum does not match leaves the cached reading and records CHECKSUM (R172, R204). -/
theorem exec_validate_of_not_frameValid {s : State} (hv : ¬ frameValid s.frame = true) :
    exec .validate s = .next { s with status := 0x03#6, st := 0#4 } := by
  rw [exec_validate, if_neg hv]
  rfl

/-- Settles O22: the test made on the frame is the exact sum's by `frameValid_iff`, then one outcome on either side. -/
theorem validateCommitsExactlyTheMatchingFrames : Obligations.ValidateCommitsExactlyTheMatchingFrames := by
  unfold Obligations.ValidateCommitsExactlyTheMatchingFrames
  intro s
  by_cases hsum : (s.frame[0].toNat + s.frame[1].toNat + s.frame[2].toNat + s.frame[3].toNat) % 256 = s.frame[4].toNat
  · rw [if_pos hsum]
    exact exec_validate_of_frameValid ((frameValid_iff s.frame).2 hsum)
  · rw [if_neg hsum]
    exact exec_validate_of_not_frameValid fun hv => hsum ((frameValid_iff s.frame).1 hv)

end Sys2Proof.Machine

/-! ## Proofs for spec/44_host_driver.md: the Rate Limiter, the driver's calls and their return -/

namespace Sys2Proof.Machine

/-! ### The Rate Limiter (R181) -/

theorem mayProceed_none (elapsed : Timestamp → Timestamp → Seconds) (minPeriod : Seconds) (now : Timestamp) :
    mayProceed elapsed minPeriod none now = true := rfl

theorem mayProceed_some (elapsed : Timestamp → Timestamp → Seconds) (minPeriod : Seconds) (t0 now : Timestamp) :
    mayProceed elapsed minPeriod (some t0) now = decide (minPeriod ≤ elapsed t0 now) := rfl

/-- Settles O50: one equation of the limiter for each form of the timestamp. -/
theorem rateLimiterProceedsIffPeriodElapsed : Obligations.RateLimiterProceedsIffPeriodElapsed := by
  unfold Obligations.RateLimiterProceedsIffPeriodElapsed
  refine ⟨fun elapsed period last now => ?_, rfl⟩
  cases last with
  | none => exact ⟨fun _ => .inl rfl, fun _ => mayProceed_none elapsed period now⟩
  | some t0 =>
    rw [mayProceed_some, decide_eq_true_iff]
    simp

/-! ### The driver at one tick boundary, an equation per phase and outcome (R182 to R186) -/

section

variable {elapsed : Timestamp → Timestamp → Seconds} {minPeriod : Seconds} {now : Timestamp} {blockBusy : Bool}
  {hum temp : Byte} {call : Option DriverOp} {op : DriverOp} {d : Driver}

/-- `start` is raised exactly if `busy` is 0, and the phase says which (R184). -/
theorem beginTransaction_eq : beginTransaction blockBusy op d =
    { driver := { d with phase := if blockBusy = true then .starting op else .waiting op }, start := !blockBusy } := by
  cases blockBusy <;> rfl

/-- `start` is raised only while `busy` is 0, and the call then waits for its transaction (R184). -/
theorem beginTransaction_of_start (h : (beginTransaction blockBusy op d).start = true) :
    blockBusy = false ∧ (beginTransaction blockBusy op d).driver.phase = .waiting op := by
  cases blockBusy
  · exact ⟨rfl, rfl⟩
  · cases h

/-- With no call the driver rests. -/
theorem driverAct_noCall (hd : d.phase = .ready) :
    driverAct elapsed minPeriod now blockBusy hum temp none d = { driver := d, start := false } := by
  unfold driverAct
  rw [hd]

/-- A call let through writes the timestamp and begins its transaction (R182, R183). -/
theorem driverAct_letThrough (hd : d.phase = .ready) (hm : mayProceed elapsed minPeriod d.lastTs now = true) :
    driverAct elapsed minPeriod now blockBusy hum temp (some op) d = beginTransaction blockBusy op
      { d with calls := d.calls.tail, clockReads := d.clockReads + 1, lastTs := some now } := by
  unfold driverAct
  rw [hd]
  exact if_pos hm

/-- A throttled call reads the clock and returns (R182). -/
theorem driverAct_throttled (hd : d.phase = .ready) (hm : mayProceed elapsed minPeriod d.lastTs now = false) :
    driverAct elapsed minPeriod now blockBusy hum temp (some op) d = finishCall op hum temp
      { d with calls := d.calls.tail, clockReads := d.clockReads + 1 } := by
  unfold driverAct
  rw [hd]
  exact if_neg (ne_true_of_eq_false hm)

/-- A call that has not raised `start` yet tries again (R184). -/
theorem driverAct_starting (hd : d.phase = .starting op) :
    driverAct elapsed minPeriod now blockBusy hum temp call d = beginTransaction blockBusy op d := by
  unfold driverAct
  rw [hd]

/-- A call that has raised `start` waits for `busy` to be 0 and then returns (R184). -/
theorem driverAct_waiting (hd : d.phase = .waiting op) :
    driverAct elapsed minPeriod now blockBusy hum temp call d =
      if blockBusy = true then { driver := d, start := false } else finishCall op hum temp d := by
  unfold driverAct
  rw [hd]

/-- Whatever the phase, `start` is raised only while `busy` is 0, by a call that begins to wait (R184). -/
theorem driverAct_of_start (h : (driverAct elapsed minPeriod now blockBusy hum temp call d).start = true) :
    blockBusy = false ∧
      ∃ op, (driverAct elapsed minPeriod now blockBusy hum temp call d).driver.phase = .waiting op ∧
        d.phase ≠ .waiting op := by
  cases hd : d.phase with
  | ready =>
    cases call with
    | none =>
      rw [driverAct_noCall hd] at h
      cases h
    | some op =>
      cases hm : mayProceed elapsed minPeriod d.lastTs now
      · rw [driverAct_throttled hd hm] at h
        cases h
      · rw [driverAct_letThrough hd hm] at h ⊢
        obtain ⟨hbusy, hphase⟩ := beginTransaction_of_start h
        exact ⟨hbusy, op, hphase, nofun⟩
  | starting op =>
    rw [driverAct_starting hd] at h ⊢
    obtain ⟨hbusy, hphase⟩ := beginTransaction_of_start h
    exact ⟨hbusy, op, hphase, nofun⟩
  | waiting op =>
    rw [driverAct_waiting hd] at h
    split at h <;> cases h

end

/-- Settles O51: the equations of a call let through and of a throttled one. -/
theorem callIsLetThroughOrAnsweredFromTheCache : Obligations.CallIsLetThroughOrAnsweredFromTheCache := by
  unfold Obligations.CallIsLetThroughOrAnsweredFromTheCache
  intro elapsed period now blockBusy hum temp op d hd
  cases hm : mayProceed elapsed period d.lastTs now
  · rw [driverAct_throttled hd hm]
    exact ⟨rfl, rfl, nofun, fun _ => ⟨rfl, rfl, rfl, rfl⟩⟩
  · rw [driverAct_letThrough hd hm, beginTransaction_eq]
    exact ⟨rfl, rfl, fun _ => ⟨rfl, rfl, rfl, rfl⟩, nofun⟩

/-- Settles O52: of the driver's cases only a call let through writes the timestamp. -/
theorem timestampIsWrittenOnlyByAnAttempt : Obligations.TimestampIsWrittenOnlyByAnAttempt := by
  unfold Obligations.TimestampIsWrittenOnlyByAnAttempt
  intro elapsed period now blockBusy hum temp call d act hne
  cases hd : d.phase with
  | ready =>
    cases call with
    | none => exact absurd (by simp [act, driverAct_noCall hd]) hne
    | some op =>
      cases hm : mayProceed elapsed period d.lastTs now
      · exact absurd (by simp [act, driverAct_throttled hd hm, finishCall]) hne
      · exact ⟨rfl, nofun, rfl, by simp [act, driverAct_letThrough hd hm, beginTransaction_eq]⟩
  | starting op => exact absurd (by simp [act, driverAct_starting hd, beginTransaction_eq]) hne
  | waiting op => exact absurd (by cases blockBusy <;> simp [act, driverAct_waiting hd, finishCall]) hne

/-! ### A tick with the driver as the host (R184, R189, R231) -/

@[simp] theorem afterTick_host (s : State) : (afterTick s).host = s.host := by
  obtain ⟨-, -, -, -, hhost, -, -⟩ := afterTick_environment s
  exact hhost

@[simp] theorem afterTick_driver (s : State) : (afterTick s).driver = s.driver := by
  obtain ⟨-, -, -, -, -, -, hdriver⟩ := afterTick_environment s
  exact hdriver

/-- The host driver "never drives `rst`" and is the only one to drive `start` (R184, R190). -/
theorem nextTick_driver {s : State} (h : s.host = .driver) : nextTick s =
    { s with
      inp := { rst := false, start := (driverStep s).start, pinIn := (rawInputs s).pinIn }
      pending := s.pending.tail
      tick := s.tick + 1
      driver := (driverStep s).driver } := by
  unfold nextTick
  rw [h]

/-- Settles O53: what the driver raises at the tick boundary is in the ports of the tick that begins. -/
theorem driverRaisesStartOnlyInIdle : Obligations.DriverRaisesStartOnlyInIdle := by
  unfold Obligations.DriverRaisesStartOnlyInIdle
  intro s t hhost hstep
  obtain ⟨-, rfl⟩ := step_next hstep
  have hhost' : (afterTick s).host = .driver := (afterTick_host s).trans hhost
  refine ⟨by rw [nextTick_driver hhost'], by rwa [nextTick_host], fun hstart => ?_⟩
  rw [busy_nextTick]
  rw [nextTick_driver hhost'] at hstart ⊢
  rw [← afterTick_driver s]
  exact driverAct_of_start hstart

/-- A call within the minimum period is answered from the cache at the tick boundary (R182, R185, R186). -/
theorem driverStep_throttled {s : State} {op : DriverOp} {rest : List DriverOp} (hphase : s.driver.phase = .ready)
    (hcalls : s.driver.calls = op :: rest)
    (hm : mayProceed Config.elapsedSeconds s.cfg.minPeriodS s.driver.lastTs (Config.now s.driver.clockReads) = false) :
    driverStep s = finishCall op s.hum s.temp
      { s.driver with calls := rest, clockReads := s.driver.clockReads + 1 } := by
  have hcall : nextCall s = some op := by rw [nextCall, hcalls]
  rw [driverStep, hcall, driverAct_throttled hphase hm, hcalls, List.tail_cons]

/-- Settles O54: the tick leaves the registers at rest, and the driver finishes the call at its end. -/
theorem throttledCallCausesNoPinActivity : Obligations.ThrottledCallCausesNoPinActivity := by
  unfold Obligations.ThrottledCallCausesNoPinActivity
  intro s op rest t0 hl hhost hst hrst hstart hphase hcalls hlast helapsed
  have hrest : afterTick s = s := by rw [afterTick_idle hrst hst, hstart]; rfl
  have hm : mayProceed Config.elapsedSeconds s.cfg.minPeriodS s.driver.lastTs
      (Config.now s.driver.clockReads) = false := by
    rw [hlast, mayProceed_some]
    exact decide_eq_false (not_le.2 helapsed)
  refine ⟨nextTick s, by rw [step_eq s hl, hrest], ?_⟩
  rw [nextTick_driver hhost, driverStep_throttled hphase hcalls hm]
  exact ⟨hst, rfl, rfl, by simp [pinOe, hst], rfl, rfl, rfl, rfl, rfl, rfl, rfl, rfl, hlast, rfl, rfl, rfl⟩

/-! ### The return of a call that has raised `start` (R184 to R187) -/

/-- The call `op` that waited at `s` has returned at `t`, in IDLE and with the cached values there. -/
structure CallReturned (op : DriverOp) (s t : State) : Prop where
  idle : t.st = 0#4
  ready : t.driver.phase = .ready
  lastTs : t.driver.lastTs = s.driver.lastTs
  reply : t.driver.reply = some (replyOf op t.hum t.temp)

/-- What a call has returned does not depend on where it waited, but for the timestamp that is kept. -/
theorem CallReturned.of_driver_eq {op : DriverOp} {s s' t : State} (h : CallReturned op s' t)
    (hd : s'.driver = s.driver) : CallReturned op s t :=
  { h with lastTs := by rw [h.lastTs, hd] }

section

variable {s : State} {op : DriverOp}

/-- While the block is busy the driver goes on waiting. -/
theorem nextTick_driver_of_busy (hhost : s.host = .driver) (hwait : s.driver.phase = .waiting op) (hst : s.st ≠ 0#4) :
    (nextTick s).driver = s.driver := by
  rw [nextTick_driver hhost]
  simp [driverStep, driverAct_waiting hwait, busy, hst]

/-- In IDLE the waiting call returns. -/
theorem callReturned_nextTick (hhost : s.host = .driver) (hwait : s.driver.phase = .waiting op) (hst : s.st = 0#4) :
    CallReturned op s (nextTick s) := by
  have hact : driverStep s = finishCall op s.hum s.temp s.driver := by
    simp [driverStep, driverAct_waiting hwait, busy, hst]
  rw [nextTick_driver hhost, hact]
  exact ⟨hst, rfl, rfl, rfl⟩

/-- A waiting call returns at the latest at the end of a run that ends in IDLE. -/
theorem runTicks_returns {k : Nat} {u : State} (hl : s.cfg.legal = true) (hhost : s.host = .driver)
    (hwait : s.driver.phase = .waiting op) (hk : 0 < k) (hrun : runTicks k s = .next u) (hu : u.st = 0#4) :
    ∃ j t, 0 < j ∧ j ≤ k ∧ runTicks j s = .next t ∧ CallReturned op s t := by
  induction k generalizing s with
  | zero => exact absurd hk (lt_irrefl 0)
  | succ k ih =>
    have hhost' : (afterTick s).host = .driver := (afterTick_host s).trans hhost
    have hwait' : (afterTick s).driver.phase = .waiting op := by rwa [afterTick_driver]
    rw [runTicks_succ k s hl] at hrun
    by_cases hst : (afterTick s).st = 0#4
    · exact ⟨1, nextTick (afterTick s), one_pos, hk, runTicks_succ 0 s hl,
        (callReturned_nextTick hhost' hwait' hst).of_driver_eq (afterTick_driver s)⟩
    · have hdriver : (nextTick (afterTick s)).driver = s.driver := by
        rw [nextTick_driver_of_busy hhost' hwait' hst, afterTick_driver]
      have hk' : 0 < k := by
        refine Nat.pos_of_ne_zero fun h0 => hst ?_
        subst h0
        cases hrun
        rwa [nextTick_st] at hu
      obtain ⟨j, t, -, hj, hrun', hret⟩ :=
        ih (by simpa using hl) (by simpa using hhost) (by rwa [hdriver]) hk' hrun
      exact ⟨j + 1, t, j.succ_pos, Nat.succ_le_succ hj, by rw [runTicks_succ j s hl, hrun'],
        hret.of_driver_eq hdriver⟩

/-- In any block state IDLE is at most `longestRun` ticks away (R245). -/
theorem ticksLeft_le_longestRun (hl : s.cfg.legal = true) : ticksLeft s ≤ longestRun s.cfg := by
  have hle := (ticksLeft_le_ticksFrom hl).trans (ticksFrom_le s.cfg s.st s.idx)
  unfold longestRun
  omega

end

/-- Settles O55: after one tick, which may accept a transaction, IDLE is at most `longestRun` ticks away, and the call
returns at the first tick that ends in IDLE. -/
theorem callReturnsWithinTheBound : Obligations.CallReturnsWithinTheBound := by
  unfold Obligations.CallReturnsWithinTheBound
  intro s op hl hhost hwait
  have hcfg : (nextTick (afterTick s)).cfg = s.cfg := by simp
  have hl' : (nextTick (afterTick s)).cfg.legal = true := by rwa [hcfg]
  obtain ⟨k, u, hk, hrun, hu⟩ := runTicks_reaches_idle hl' (.inr (ticksLeft_le_longestRun hl'))
  rw [← runTicks_succ k s hl] at hrun
  obtain ⟨j, t, hpos, hj, hrun', hidle, hready, hlast, hreply⟩ := runTicks_returns hl hhost hwait k.succ_pos hrun hu
  rw [hcfg] at hk
  exact ⟨j, t, hpos, hj.trans (Nat.succ_le_succ hk), hrun', hidle, hready, hlast, hreply⟩

end Sys2Proof.Machine

/-! ## Proofs for spec/60_exceptions.md: the two failures -/

namespace Sys2Proof.Machine

/-! ### The abort (R203) -/

/-- The wait states are among the codes from 1 to 8 (R90). -/
theorem waitOf_toNat_range {c : Config} {st : StateCode} {level : Level} {n : Nat}
    (hw : waitOf c st = some (level, n)) : 1 ≤ st.toNat ∧ st.toNat ≤ 8 := by
  rcases waitOf_cases hw with ⟨rfl, -⟩ | ⟨rfl, -⟩ | ⟨rfl, -⟩ | ⟨rfl, -⟩ | ⟨rfl, -⟩ <;> decide

/-- Every wait state is an input state (R203). -/
theorem pinOe_of_waitOf {c : Config} {s : State} {level : Level} {n : Nat}
    (hw : waitOf c s.st = some (level, n)) : pinOe s = false := by
  rcases waitOf_cases hw with ⟨h, -⟩ | ⟨h, -⟩ | ⟨h, -⟩ | ⟨h, -⟩ | ⟨h, -⟩ <;> simp [pinOe, h]

/-- A wait state's own micro-operation raises the timeout on the last allowed sample (R40, R203). -/
theorem exec_decodeState_timeout {s : State} (hr : s.inp.rst = false) {level : Level} {n : Nat}
    (hw : waitOf s.cfg s.st = some (level, n)) (hp : s.inp.pinIn ≠ level) (hc : n - 1 ≤ s.cnt) :
    exec (decodeState s.st) s = .next (raiseTimeout s.st s) := by
  rw [exec_decodeState, execState_eq s hr, afterTick_timeout hr hw hp hc]

/-- Settles O33: the wait state's tick is `raiseTimeout`, and the next tick begins with the registers it left. -/
theorem timeoutWritesStatusCntAndStOnly : Obligations.TimeoutWritesStatusCntAndStOnly := by
  unfold Obligations.TimeoutWritesStatusCntAndStOnly
  intro s level n hl hr hw hp hc
  obtain ⟨h1, h8⟩ := waitOf_toNat_range hw
  have hstep : step s = .next (nextTick (raiseTimeout s.st s)) := by rw [step_eq s hl, afterTick_timeout hr hw hp hc]
  refine ⟨statusWord s.st codeTimeout, statusWord_toNat s.st codeTimeout, exec_decodeState_timeout hr hw hp hc,
    pinOe_of_waitOf hw, _, hstep, ?_⟩
  have hframe : Inv s → s.frame = Vector.replicate 5 0x00#8 := fun hinv => hinv.frameZero h1 (by omega)
  simpa [busy, pinOe, pinPull] using hframe

/-! ### The checksum mismatch (R202, R204) -/

/-- No timeout's status word is that of a checksum mismatch (R94). -/
theorem timeout_ne_checksum (st : StateCode) : statusWord st codeTimeout ≠ 0x03#6 := by
  revert st
  decide

/-- A tick that turns `status` into CHECKSUM is VALIDATE's rejection of a frame (R202). -/
theorem TickEffect.rejects {s u : State} (hu : TickEffect s u) (hs : s.status ≠ 0x03#6) (ht : u.status = 0x03#6) :
    s.st = 10#4 ∧ ¬ frameValid s.frame = true ∧ u = goTo stIdle (raiseChecksumMismatch s) := by
  cases hu with
  | reject hr hst hv => exact ⟨hst, ne_true_of_eq_false hv, rfl⟩
  | timeout hr hw hp hc => exact absurd ht (timeout_ne_checksum s.st)
  | reset hr => simp at ht
  | commit hr hst hv => simp at ht
  | _ => exact absurd (by simpa using ht) hs

/-- Settles O34: VALIDATE's branch on a mismatch, and of the cases of a tick no other records CHECKSUM. -/
theorem checksumMismatchIsRaisedByValidateOnly : Obligations.ChecksumMismatchIsRaisedByValidateOnly := by
  unfold Obligations.ChecksumMismatchIsRaisedByValidateOnly
  refine ⟨fun s hsum => exec_validate_of_not_frameValid (mt (frameValid_iff s.frame).1 hsum), fun s t h hs ht => ?_⟩
  obtain ⟨u, hu, rfl⟩ := tickEffect_of_step h
  rw [nextTick_status] at ht
  obtain ⟨hst, hv, rfl⟩ := hu.rejects hs ht
  simp only [nextTick_frame, nextTick_hum, nextTick_temp]
  exact ⟨hst, rfl, rfl, rfl, mt (frameValid_iff s.frame).2 hv⟩

end Sys2Proof.Machine

/-! ## Proofs for spec/70_reset_and_hazards.md: the reset strobe and the length of a transaction -/

namespace Sys2Proof.Machine

/-! ### RST (R230, R37) -/

/-- Settles O11: RST resets the registers, and a tick with `rst` = 1 runs it whatever else stands on the ports. -/
theorem rstGivesEveryRegisterItsResetValue : Obligations.RstGivesEveryRegisterItsResetValue := by
  unfold Obligations.RstGivesEveryRegisterItsResetValue
  refine ⟨fun s => rfl, fun s hl hr => ?_, rfl⟩
  have hstep : step s = .next (nextTick (resetRegisters s)) := by rw [step_eq s hl, afterTick_rst hr]
  refine ⟨_, hstep, ?_⟩
  simp [busy, pinOe, pinOut, pinPull, clearedBits, clearedFrame]

/-! ### Induction over the ticks of a run -/

/-- The last tick of a run is a step from the state that the ticks before it leave. -/
theorem runTicks_lastStep {s t : State} {n : Nat} (hl : s.cfg.legal = true) (hrun : runTicks (n + 1) s = .next t) :
    ∃ u, runTicks n s = .next u ∧ step u = .next t := by
  have hu := runTicks_eq n s hl
  generalize (fun u => nextTick (afterTick u))^[n] s = u at hu
  refine ⟨u, hu, ?_⟩
  rw [← hrun, runTicks_snoc hl hu, step_eq u (by rwa [runTicks_cfg hl hu])]

/-- What holds before a run, and at each tick of it carries over from `j` ticks to `j + 1`, holds after the run. -/
theorem runTicks_induction {P : Nat → State → Prop} {s t : State} {n : Nat} (hl : s.cfg.legal = true) (h0 : P 0 s)
    (hstep : ∀ j u v, j < n → runTicks j s = .next u → step u = .next v → P j u → P (j + 1) v)
    (hrun : runTicks n s = .next t) : P n t := by
  induction n generalizing t with
  | zero =>
    cases hrun
    exact h0
  | succ n ih =>
    obtain ⟨u, hu, hlast⟩ := runTicks_lastStep hl hrun
    exact hstep n u t n.lt_succ_self hu hlast (ih (fun j u v hj => hstep j u v (Nat.lt_succ_of_lt hj)) hu)

/-! ### The least number of ticks before each state (R245) -/

/-- At least so many ticks lie between an acceptance tick and the first tick of `st` with bit index `idx`: each wait is
met by its first sample, and the delays take their whole length. -/
def ticksBefore (c : Config) (st : StateCode) (idx : BitIndex) : Nat :=
  match st.toNat with
  | 1 => 1
  | 2 => 2
  | 3 => 2 + c.holdLow
  | 4 => 2 + c.holdLow + c.release
  | 5 => 3 + c.holdLow + c.release
  | 6 => 4 + c.holdLow + c.release + idx.toNat * (c.settle + 2)
  | 7 => 5 + c.holdLow + c.release + idx.toNat * (c.settle + 2)
  | 8 => 5 + c.holdLow + c.release + idx.toNat * (c.settle + 2) + c.settle
  | 9 => 4 + c.holdLow + c.release + 40 * (c.settle + 2)
  | 10 => 5 + c.holdLow + c.release + 40 * (c.settle + 2)
  | _ => 0

/-- VALIDATE's tick is the last one of the shortest transaction. -/
theorem ticksBefore_validate (c : Config) (idx : BitIndex) : ticksBefore c 10#4 idx + 1 = shortestTransaction c := by
  simp only [ticksBefore, shortestTransaction, BitVec.reduceToNat]
  omega

/-- What holds of a busy state `j` ticks after an IDLE tick: `idx` keeps to its range and is 0 up to ACK_HIGH (R43), and
the least number of ticks before the state, with those that `cnt` has counted in it, does not exceed `j`. -/
structure UnderWay (j : Nat) (s : State) : Prop where
  stLegal : s.st.toNat ≤ 10
  idxRange : s.idx.toNat ≤ 39
  idxInitiator : s.st.toNat ≤ 5 → s.idx = 0#6
  ticks : ticksBefore s.cfg s.st s.idx + s.cnt ≤ j

namespace UnderWay

variable {j : Nat} {s : State}

theorem acceptTransaction : UnderWay (j + 1) (acceptTransaction s) where
  stLegal := by simp
  idxRange := by simp
  idxInitiator _ := rfl
  ticks := Nat.le_add_left 1 j

theorem count (h : UnderWay j s) : UnderWay (j + 1) { s with cnt := s.cnt + 1 } :=
  { h with ticks := Nat.succ_le_succ h.ticks }

/-- The next state of a transaction is entered with `idx` kept, when the ticks so far are enough for it. -/
theorem advance (h : UnderWay j s) {u : State} (hcfg : u.cfg = s.cfg) (hidx : u.idx = s.idx)
    {code : StateCode} (hst : u.st = code) (h10 : code.toNat ≤ 10) (h5 : code.toNat ≤ 5 → s.st.toNat ≤ 5)
    (hticks : ticksBefore s.cfg code s.idx + u.cnt ≤ ticksBefore s.cfg s.st s.idx + s.cnt + 1) :
    UnderWay (j + 1) u where
  stLegal := by rwa [hst]
  idxRange := by rw [hidx]; exact h.idxRange
  idxInitiator hle := by rw [hidx]; exact h.idxInitiator (h5 (by rwa [hst] at hle))
  ticks := by rw [hcfg, hidx, hst]; exact hticks.trans (Nat.succ_le_succ h.ticks)

/-- BIT_END's success goes to the next bit, one SETTLE and two samples after this one, or ends the last bit (R142). -/
theorem nextBit (h : UnderWay j s) (hst : s.st = 8#4) : UnderWay (j + 1) (nextBit { s with cnt := 0 }) := by
  rcases nextBit_cases { s with cnt := 0 } with ⟨hi, hn⟩ | ⟨hi, hn⟩ <;> rw [hn] <;> dsimp only at hi
  · have hlast : s.idx.toNat = 39 := Nat.le_antisymm h.idxRange hi
    refine h.advance rfl rfl (code := 9#4) rfl (by decide) (by simp) ?_
    simp [hst, hlast, ticksBefore]
    omega
  · have hidx : (s.idx + 1#6).toNat = s.idx.toNat + 1 := by
      rw [BitVec.toNat_add]
      exact Nat.mod_eq_of_lt (by simp; omega)
    have hmul := Nat.succ_mul s.idx.toNat (s.cfg.settle + 2)
    have hticks := h.ticks
    constructor
    case idxRange => dsimp only; omega
    case ticks =>
      simp [hst, ticksBefore] at hticks
      simp [ticksBefore, hidx, hmul]
      omega
    all_goals simp

/-- A wait that is met leads to a state that can be entered one tick after the wait's own entry (R40). -/
theorem onMatch (h : UnderWay j s) {level : Level} {n : Nat} (hw : waitOf s.cfg s.st = some (level, n)) :
    UnderWay (j + 1) (onMatch s.st { s with cnt := 0 }) := by
  rcases waitOf_cases hw with ⟨hst, -⟩ | ⟨hst, -⟩ | ⟨hst, -⟩ | ⟨hst, -⟩ | ⟨hst, -⟩ <;> rw [hst]
  · exact h.advance rfl rfl (code := 2#4) rfl (by decide) (by simp [hst]) (by simp [hst, ticksBefore])
  · exact h.advance rfl rfl (code := 5#4) rfl (by decide) (by simp [hst]) (by simp [hst, ticksBefore]; omega)
  · have hidx : s.idx = 0#6 := h.idxInitiator (by simp [hst])
    exact h.advance rfl rfl (code := 6#4) rfl (by decide) (by simp [hst]) (by simp [hst, hidx, ticksBefore]; omega)
  · exact h.advance rfl rfl (code := 7#4) rfl (by decide) (by simp) (by simp [hst, ticksBefore]; omega)
  · exact h.nextBit hst

/-- A delay that is over has lasted its whole length (R41). -/
theorem onDelayEnd (h : UnderWay j s) {n : Nat} (hd : delayOf s.cfg s.st = some n) (hc : n - 1 ≤ s.cnt) :
    UnderWay (j + 1) (onDelayEnd s.st { s with cnt := 0 }) := by
  refine h.advance (onDelayEnd_cfg _ _) (onDelayEnd_idx _ _) (onDelayEnd_st s.st _ hd) ?_ ?_ ?_
  all_goals
    rcases delayOf_cases hd with ⟨hst, rfl⟩ | ⟨hst, rfl⟩ | ⟨hst, rfl⟩ <;> simp [hst, ticksBefore]
  all_goals omega

theorem assemble (h : UnderWay j s) (hst : s.st = 9#4) :
    UnderWay (j + 1) { s with frame := packFrame s.bitbuf, st := stValidate } :=
  h.advance rfl rfl (code := 10#4) rfl (by decide) (by simp) (by simp [hst, ticksBefore]; omega)

/-- Each case of a tick ends in IDLE or leaves a transaction under way. -/
theorem tickEffect {u : State} (h : s.st = 0#4 ∨ UnderWay j s) (hu : TickEffect s u) :
    u.st = 0#4 ∨ UnderWay (j + 1) u := by
  have hbusy : s.st ≠ 0#4 → UnderWay j s := h.resolve_left
  cases hu with
  | accept hr hst hs => exact .inr .acceptTransaction
  | rest hr hst hs => exact .inl hst
  | count hr hn hc => exact .inr (hbusy (fun hst => by rw [hst] at hn; cases hn)).count
  | matched hr hw hp => exact .inr ((hbusy (fun hst => by rw [hst] at hw; cases hw)).onMatch hw)
  | delayEnd hr hd hc => exact .inr ((hbusy (fun hst => by rw [hst] at hd; cases hd)).onDelayEnd hd hc)
  | assemble hr hst => exact .inr ((hbusy (by simp [hst])).assemble hst)
  | _ => exact .inl rfl

theorem nextTick (h : UnderWay j s) : UnderWay j (nextTick s) where
  stLegal := by simpa using h.stLegal
  idxRange := by simpa using h.idxRange
  idxInitiator := by simpa using h.idxInitiator
  ticks := by simpa using h.ticks

/-- After a run from an IDLE tick the block is in IDLE or a transaction is under way, within the ticks of the run. -/
theorem of_runTicks {t : State} (hl : s.cfg.legal = true) (hst : s.st = 0#4) (hrun : runTicks j s = .next t) :
    t.st = 0#4 ∨ UnderWay j t := by
  refine runTicks_induction (P := fun k u => u.st = 0#4 ∨ UnderWay k u) hl (.inl hst) (fun k u v _ _ hv h => ?_) hrun
  obtain ⟨w, hw, rfl⟩ := tickEffect_of_step hv
  exact (tickEffect h hw).imp (by simp) nextTick

/-- VALIDATE is not reached before the last tick of the shortest transaction. -/
theorem shortestTransaction_le (h : UnderWay j s) (hst : s.st = 10#4) : shortestTransaction s.cfg ≤ j + 1 := by
  have hticks := h.ticks
  rw [hst] at hticks
  have hlast := ticksBefore_validate s.cfg s.idx
  omega

end UnderWay

/-! ### No result before the least length (R245) -/

/-- The outcome registers of `t` are those of `s`, but for a timeout that `status` may record. -/
def NoResultSince (s t : State) : Prop :=
  t.hum = s.hum ∧ t.temp = s.temp ∧ (t.status = s.status ∨ t.status ∈ [0x06#6, 0x12#6, 0x16#6, 0x1A#6, 0x22#6])

/-- A wait state's timeout is one of the five words, `4 · fail + 2` (R94). -/
theorem timeoutWord_mem {st : StateCode} {w : StatusWord} (hw : w.toNat = 4 * st.toNat + 2)
    (hst : st ∈ [1#4, 4#4, 5#4, 6#4, 8#4]) : w ∈ [0x06#6, 0x12#6, 0x16#6, 0x1A#6, 0x22#6] := by
  obtain rfl : w = BitVec.ofNat 6 (4 * st.toNat + 2) := by rw [← hw, BitVec.ofNat_toNat, BitVec.setWidth_eq]
  revert st
  decide

/-- A step that is no reset and does not run VALIDATE records no result (R25, R28). -/
theorem NoResultSince.step {s u v : State} (h : NoResultSince s u) (hv : step u = .next v) (hr : u.inp.rst = false)
    (hst : u.st ≠ 10#4) : NoResultSince s v := by
  obtain ⟨hhum, htemp, hstatus⟩ := h
  obtain ⟨hhum', htemp'⟩ := (cacheChangesOnlyAtMatchingValidate u v hv hr).resolve_right fun hval => hst hval.1
  refine ⟨hhum'.trans hhum, htemp'.trans htemp, ?_⟩
  by_cases hkept : v.status = u.status
  · rwa [hkept]
  · obtain ⟨-, -, hword⟩ := statusChangesOnlyWhenBusyFalls u v hv hr hkept
    obtain ⟨hw, hmem⟩ := hword.resolve_right fun hval => hst hval.1
    exact .inr (timeoutWord_mem hw hmem)

/-- Settles O47: within fewer ticks than the shortest transaction takes no tick of the run is VALIDATE's. -/
theorem noResultBeforeTheLeastLength : Obligations.NoResultBeforeTheLeastLength := by
  unfold Obligations.NoResultBeforeTheLeastLength
  intro s t k hcfg hst hk hi hrun
  have hl := legal_of_default hcfg
  refine runTicks_induction (P := fun _ => NoResultSince s) hl ⟨rfl, rfl, .inl rfl⟩ (fun j u v hj hu hv h => ?_) hrun
  refine h.step hv (hi j hj u hu) fun hval => ?_
  have hunder : UnderWay j u := (UnderWay.of_runTicks hl hst hu).resolve_left (by simp [hval])
  have hle := hunder.shortestTransaction_le hval
  rw [runTicks_cfg hl hu, hcfg] at hle
  have hshortest : shortestTransaction Config.default = 21716 := rfl
  omega

/-! ### The length of a transaction, by outcome (R245) -/

/-- A run that is busy after `k` ticks is not in IDLE there (R36). -/
theorem st_ne_idle_of_busy {s u : State} {k : Nat} (hbusy : ∃ v, runTicks k s = .next v ∧ busy v = true)
    (hu : runTicks k s = .next u) : u.st ≠ 0#4 := by
  obtain ⟨v, hv, hb⟩ := hbusy
  cases hu.symm.trans hv
  simpa [busy] using hb

/-- While a transaction accepted `j` ticks ago is busy, `j` and the ticks left do not exceed its greatest length. -/
theorem ticksLeft_of_runTicks {s t : State} {j : Nat} (hl : s.cfg.legal = true) (hst : s.st = 0#4)
    (hs : s.inp.start = true) (hr : s.inp.rst = false) (h0 : 0 < j)
    (hbusy : ∀ k, 0 < k → k ≤ j → ∃ u, runTicks k s = .next u ∧ busy u = true) (hrun : runTicks j s = .next t) :
    j + ticksLeft t ≤ longestRun s.cfg + 1 := by
  refine runTicks_induction (P := fun k u => 0 < k → k + ticksLeft u ≤ longestRun s.cfg + 1) hl
    (fun h => absurd h (lt_irrefl 0)) (fun k u v hk hu hv ih _ => ?_) hrun h0
  obtain ⟨hlu, rfl⟩ := step_next hv
  rw [ticksLeft_nextTick]
  rcases Nat.eq_zero_or_pos k with rfl | hpos
  · cases hu
    rw [afterTick_idle hr hst, if_pos hs]
    have hle := ticksLeft_le_longestRun (s := acceptTransaction s) hl
    rw [acceptTransaction_cfg] at hle
    omega
  · have hnext := st_ne_idle_of_busy (hbusy (k + 1) k.succ_pos hk) (runTicks_snoc hl hu)
    rw [nextTick_st] at hnext
    have hne := st_ne_idle_of_busy (hbusy k hpos hk.le) hu
    have hlt := (ticksLeft_tickEffect hlu hne (tickEffect_afterTick u)).resolve_left hnext
    have hleft := ih hpos
    omega

/-- Outside IDLE a legal state that is left for IDLE without a reset is a wait that times out, or VALIDATE (R92). -/
theorem TickEffect.ends {s u : State} (hu : TickEffect s u) (hr : s.inp.rst = false) (hst : s.st ≠ 0#4)
    (h10 : s.st.toNat ≤ 10) (hidle : u.st = 0#4) :
    (∃ level n, waitOf s.cfg s.st = some (level, n) ∧ n - 1 ≤ s.cnt ∧ u = raiseTimeout s.st s) ∨
      (s.st = 10#4 ∧ (u.status = 0x01#6 ∨ u.status = 0x03#6)) := by
  cases hu with
  | timeout _ hw hp hc => exact .inl ⟨_, _, hw, hc, rfl⟩
  | commit _ hval hv => exact .inr ⟨hval, .inl (by simp)⟩
  | reject _ hval hv => exact .inr ⟨hval, .inr (by simp)⟩
  | reset hr' => simp [hr] at hr'
  | rest _ h hs => exact absurd h hst
  | accept _ h hs => exact absurd h hst
  | count _ hn hc => exact absurd hidle hst
  | matched _ hw hp =>
    rw [onMatch_st hw] at hidle
    split_ifs at hidle <;> cases hidle
  | delayEnd _ hd hc =>
    rw [onDelayEnd_st s.st _ hd] at hidle
    split_ifs at hidle <;> cases hidle
  | assemble _ h => simp at hidle
  | reserved _ h => omega

/-- How a transaction of `len` ticks ends, with any legal parameters: a timeout of the wait state `code` after its `n`
samples, `len` being at least what lies before it and leaving what may lie after it; or a result. -/
inductive Finished (c : Config) (t : State) (len : Nat) : Prop
  | timeout (code : StateCode) (level : Level) (n : Nat) (hw : waitOf c code = some (level, n))
      (hstatus : t.status = statusWord code codeTimeout) (hidx : t.idx.toNat ≤ 39)
      (hleast : ticksBefore c code t.idx + n ≤ len) (hgreatest : len + ticksAfter c code t.idx ≤ longestRun c + 1)
  | result (hstatus : t.status = 0x01#6 ∨ t.status = 0x03#6)
      (hleast : shortestTransaction c ≤ len) (hgreatest : len ≤ longestRun c + 1)

/-- The last tick of a transaction, from the ticks before its state and the ticks left in it. -/
theorem UnderWay.finished {u t : State} {j : Nat} (h : UnderWay j u) (hleft : j + ticksLeft u ≤ longestRun u.cfg + 1)
    (hr : u.inp.rst = false) (hne : u.st ≠ 0#4) (ht : step u = .next t) (hidle : t.st = 0#4) :
    Finished u.cfg t (j + 1) := by
  have hafter : ticksAfter u.cfg u.st u.idx < ticksLeft u := by
    simp only [ticksLeft]
    omega
  obtain ⟨v, hv, rfl⟩ := tickEffect_of_step ht
  rw [nextTick_st] at hidle
  rcases hv.ends hr hne h.stLegal hidle with ⟨level, n, hw, hc, rfl⟩ | ⟨hval, hstatus⟩
  · have hidx : (Machine.nextTick (raiseTimeout u.st u)).idx = u.idx := by simp
    have hticks := h.ticks
    refine .timeout u.st level n hw (by simp) ?_ ?_ ?_ <;> rw [hidx]
    · exact h.idxRange
    · omega
    · omega
  · exact .result (by simpa using hstatus) (h.shortestTransaction_le hval) (by omega)

/-- A run from an acceptance tick to the first IDLE tick after it is a transaction that has finished. -/
theorem finished_of_runTicks {s t : State} {len : Nat} (hl : s.cfg.legal = true) (hst : s.st = 0#4)
    (hs : s.inp.start = true) (hi : InputsAlong s len fun _ i => i.rst = false)
    (hbusy : ∀ k, 0 < k → k < len → ∃ u, runTicks k s = .next u ∧ busy u = true) (h0 : 0 < len)
    (hrun : runTicks len s = .next t) (hidle : t.st = 0#4) : Finished s.cfg t len := by
  have hr := hi 0 h0 s rfl
  obtain ⟨j, rfl⟩ : ∃ j, len = j + 1 := Nat.exists_eq_succ_of_ne_zero h0.ne'
  obtain ⟨u, hu, ht⟩ := runTicks_lastStep hl hrun
  rcases Nat.eq_zero_or_pos j with rfl | hpos
  · cases hu
    obtain ⟨-, rfl⟩ := step_next ht
    rw [nextTick_st, afterTick_idle hr hst, if_pos hs] at hidle
    cases hidle
  · have hne := st_ne_idle_of_busy (hbusy j hpos j.lt_succ_self) hu
    have hunder := (UnderWay.of_runTicks hl hst hu).resolve_left hne
    have hleft := ticksLeft_of_runTicks hl hst hs hr hpos (fun k hk hkj => hbusy k hk (Nat.lt_succ_of_le hkj)) hu
    rw [← runTicks_cfg hl hu] at hleft ⊢
    exact hunder.finished hleft (hi j j.lt_succ_self u hu) hne ht hidle

/-- Settles O48: the ways a transaction ends, with the default parameters put in wait state by wait state. -/
theorem transactionLengthsAreAsTabulated : Obligations.TransactionLengthsAreAsTabulated := by
  unfold Obligations.TransactionLengthsAreAsTabulated
  intro s t len hcfg hst hs h0 hi hbusy hrun hidle k
  have hend := finished_of_runTicks (legal_of_default hcfg) hst hs hi hbusy h0 hrun (by simpa [busy] using hidle)
  rw [hcfg] at hend
  have hlongest : longestRun Config.default = 27082 := rfl
  cases hend with
  | timeout code level n hw hstatus hidx hleast hgreatest =>
    right
    rcases waitOf_cases hw with ⟨rfl, -, rfl⟩ | ⟨rfl, -, rfl⟩ | ⟨rfl, -, rfl⟩ | ⟨rfl, -, rfl⟩ | ⟨rfl, -, rfl⟩
    all_goals
      rw [hlongest] at hgreatest
      simp only [ticksBefore, ticksAfter, bitTicks, BitVec.reduceToNat, Config.default] at hleast hgreatest
      simp [hstatus, k]
      omega
  | result hstatus hleast hgreatest =>
    have hshortest : shortestTransaction Config.default = 21716 := rfl
    rw [hshortest] at hleast
    rw [hlongest] at hgreatest
    exact .inl ⟨hstatus, hleast, hgreatest⟩

end Sys2Proof.Machine

/-! ## Proofs for spec/30_encoding.md: the word a step runs -/

namespace Sys2Proof.Machine

/-- The fetch decides a step: it is the execution of the fetched instruction, and then the next tick begins (R42). -/
theorem step_of_fetch {s : State} {i : Instr} (hl : s.cfg.legal = true) (h : fetch s = i) :
    ∃ t, exec i s = .next t ∧ step s = .next (nextTick t) := by
  subst h
  exact ⟨afterTick s, exec_fetch s, step_eq s hl⟩

/-- A strobe that is a command is the tick's instruction, whatever the state register holds (R99). -/
theorem fetch_of_decodeStrobe {s : State} {i : Instr}
    (h : decodeStrobe (BitVec.ofBool s.inp.rst ++ BitVec.ofBool s.inp.start) = .ok i) : fetch s = i := by
  simp only [fetch, decodeTick, h]

/-- A strobe word is its `rst` bit and its `start` bit (R99). -/
theorem ofBool_append_ofBool (v : StrobeWord) : BitVec.ofBool v[1] ++ BitVec.ofBool v[0] = v := by
  revert v
  decide

theorem decodeTableWord_eq_some {nbits w : Nat} {i : Instr} (h : decodeTableWord nbits w = some i) :
    ∃ c, codeOfNat nbits w = .ok c ∧ decode c = .ok i := by
  unfold decodeTableWord at h
  split at h
  · cases h
  · next c hc =>
    split at h
    · cases h
    · next j hj =>
      cases h
      exact ⟨c, hc, hj⟩

@[simp] theorem withFetchWord_cfg (s : State) (nbits w : Nat) : (s.withFetchWord nbits w).cfg = s.cfg := by
  unfold State.withFetchWord
  split <;> rfl

/-- The fetch finds the instruction that a placed word decodes to: a state code in `st` with no strobe raised, a strobe
word on the two ports. -/
theorem fetch_withFetchWord (s : State) {nbits w : Nat} {c : Code} {i : Instr} (hc : codeOfNat nbits w = .ok c)
    (hi : decode c = .ok i) : fetch (s.withFetchWord nbits w) = i := by
  unfold State.withFetchWord
  rw [hc]
  cases c with
  | state4 code =>
    cases hi
    exact decodeTick_none code
  | strobe2 v =>
    apply fetch_of_decodeStrobe
    dsimp only
    rw [ofBool_append_ofBool]
    exact hi

/-- Settles O5: in both clauses the fetch finds the instruction that the word decodes to. -/
theorem placedWordIsTheNextInstruction : Obligations.PlacedWordIsTheNextInstruction := by
  unfold Obligations.PlacedWordIsTheNextInstruction
  constructor
  · intro s i hl h
    exact step_of_fetch hl (fetch_of_decodeStrobe h)
  · intro s nbits w i hl h
    obtain ⟨c, hc, hi⟩ := decodeTableWord_eq_some h
    exact step_of_fetch (by simpa using hl) (fetch_withFetchWord s hc hi)

end Sys2Proof.Machine
